-- ==== Sys2Proof/Word.lean ====
section
/-! DEFINITION. The word types of the block (spec/00_scope.md rule R7): bit 0 is the least significant bit, and every
quantity is unsigned. -/

namespace Sys2Proof

/-- One byte of the image buffer. -/
abbrev Byte := BitVec 8

/-- A 32-bit word: the width of every mailbox register (`REG_BITS`, R4) and of every `u32` (R7). -/
abbrev Word := BitVec 32

/-- A 64-bit physical address (`u64`, R7; R11, R32). -/
abbrev Addr := BitVec 64

end Sys2Proof
end

