-- ==== Sys2Proof/Config.lean ====
section
/-! DEFINITION. What is fixed for one sequencer: the constants the source fixes (spec/00_scope.md R4), the parameters the
spec introduces (R6), the OPEN parameters (R5, D8) as the fields of `Config`, and the free values: what the device and
the environment answer (spec/10_state.md R25). -/

namespace Sys2Proof

namespace Config

/-! ### Constants of R4 -/

/-- Byte offset of the Control register. -/
def offCtrl : Addr := 0x0#64
/-- Byte offset of the Status register. -/
def offStatus : Addr := 0x4#64
/-- Byte offset of the Write-data register. -/
def offWdata : Addr := 0x8#64
/-- Byte offset of the Read-data register. -/
def offRdata : Addr := 0xC#64
/-- `CTRL_ABORT_BIT`. -/
def ctrlAbortBit : Nat := 0
/-- `CTRL_GO_BIT`. -/
def ctrlGoBit : Nat := 31
/-- `STATUS_ERROR_BIT`. -/
def statusErrorBit : Nat := 2
/-- `STATUS_READY_BIT`. -/
def statusReadyBit : Nat := 31
/-- `CMD_LOAD`, the one command code. -/
def cmdLoad : Word := 0x3#32
/-- `HEADER_SIZE_BYTES`: the size of the request header. -/
def headerSizeBytes : Nat := 16
/-- `HEADER_DWORDS`: the same in dwords. -/
def headerDwords : Nat := headerSizeBytes / 4
/-- `POLL_TIMEOUT_MS`: the wait timeout of one chunk. -/
def pollTimeoutMs : Nat := 10000
/-- `POLL_PERIOD_MS`: the poll granularity. -/
def pollPeriodMs : Nat := 1
/-- `BUDGET_FACTOR`. -/
def budgetFactor : Nat := 2
/-- `TERMINAL_SENTINEL`. -/
def terminalSentinel : Word := 0xFFFFFFFF#32
/-- `PAGE_SIZE`, the greatest chunk in bytes (D28). -/
def pageSize : Nat := 4096

/-! ### Parameters of R6 -/

/-- `POLL_MAX = POLL_TIMEOUT_MS / POLL_PERIOD_MS`: the greatest number of Status reads in one wait (D7). -/
def pollMax : Nat := pollTimeoutMs / pollPeriodMs
/-- `TOTAL_SIZE_MAX`: the greatest admitted `totalSize` (D10). -/
def totalSizeMax : Nat := 0x7FFFFFFC

/-! ### The two Control words of R52 (D5) -/

/-- The Control word with the ABORT bit alone. -/
def ctrlAbortWord : Word := 1#32 <<< ctrlAbortBit
/-- The Control word with the GO bit alone. -/
def ctrlGoWord : Word := 1#32 <<< ctrlGoBit

/-! ### Free values (R25, U7): what the environment answers when the state's answer queues are empty -/

/-- The value of a Status read that no queued answer supplies. -/
opaque freeStatus : Nat → Word
/-- The value of a Read-data read that no queued answer supplies. -/
opaque freeRdata : Nat → Word
/-- Whether a `MAP` that no queued answer supplies answers `ok`. -/
opaque freeMapOk : Nat → Bool

/-- Three bit positions of a word are distinct (R5). -/
def bitsDistinct (a b c : Fin 32) : Bool := a != b && a != c && b != c

end Config

/-- The OPEN parameters of the block (R5, D8, D14 to D16): fixed for one sequencer, written by no step. A statement about
every state holds for every value of them. -/
structure Config where
  /-- `VENDOR_ID`, bits [15:0] of the header word (D14). -/
  vendorId : BitVec 16
  /-- `OBJECT_TYPE`, bits [31:16] of the header word (D14). -/
  objectType : BitVec 16
  /-- `RESP_LEN_EXPECTED` (D15). -/
  respLenExpected : Word
  /-- `RESP_SUCCESS_BIT` (D16); no rule reads it. -/
  respSuccessBit : Fin 32
  /-- `RESP_PROGRESS_BIT` (D16); no rule reads it. -/
  respProgressBit : Fin 32
  /-- `RESP_ERROR_BIT` (D16). -/
  respErrorBit : Fin 32
  /-- `POLL_EXIT_ON_ERROR` (D8), default true. -/
  pollExitOnError : Bool
  /-- The three flag positions are distinct values (R5). -/
  flagBitsDistinct : Config.bitsDistinct respSuccessBit respProgressBit respErrorBit = true
  deriving DecidableEq, Repr

namespace Config

/-- `HEADER_CONST = VENDOR_ID | (OBJECT_TYPE << 16)`, 32 bits (R5, R58). -/
def headerConst (c : Config) : Word :=
  c.vendorId.setWidth 32 ||| (c.objectType.setWidth 32 <<< 16)

/-- The reference instance of R5 (PRESUMED: general knowledge, not in the source; log entry 3). -/
def reference : Config where
  vendorId := 0x8086#16
  objectType := 0x000B#16
  respLenExpected := 4#32
  respSuccessBit := 0
  respProgressBit := 1
  respErrorBit := 2
  pollExitOnError := true
  flagBitsDistinct := by decide

end Config

end Sys2Proof
end

