-- ==== Sys2Proof/Machine/Flags.lean ====
section
/-! DEFINITION. Every test of a bit of a word the device supplies: the Status word (spec/30_encoding.md R53, spec/43
R108, R109) and the flags word of a response (R56, R93). No other bit of either word is read (R57 c, D27). -/

namespace Sys2Proof.Machine

/-- Bit `ERROR` of a Status word. -/
def statusErrorSet (w : Word) : Bool := w.getLsbD Config.statusErrorBit

/-- Bit `READY` of a Status word. -/
def statusReadySet (w : Word) : Bool := w.getLsbD Config.statusReadyBit

/-- The class of a Status word (R109). -/
inductive PollClass where
  | error
  | ready
  | timeout
  deriving DecidableEq, Repr

/-- `classify(s) = Error if s[2] = 1; else Ready if s[31] = 1; else Timeout` (R109). -/
def classify (w : Word) : PollClass :=
  if statusErrorSet w then .error else if statusReadySet w then .ready else .timeout

/-- `exit(s) = (s[31] = 1) or (POLL_EXIT_ON_ERROR and s[2] = 1)` (R108). -/
def pollExit (c : Config) (w : Word) : Bool :=
  statusReadySet w || (c.pollExitOnError && statusErrorSet w)

/-- The ERROR flag of a response's flags word (R56, R93). -/
def respErrorSet (c : Config) (w : Word) : Bool := w.getLsbD c.respErrorBit.val

end Sys2Proof.Machine
end

