-- ==== Sys2Proof/Syntax.lean ====
section
/-! DEFINITION. The operations of the block: one constructor per row of spec/opcode_table.json, in the table's order
(spec/30_encoding.md R62). A word the block CONSUMES (a Status sample, a response dword) is an operand; a word it PRODUCES
(a request dword, the completion report) is computed by the operation's meaning from the state. -/

namespace Sys2Proof

/-- The primitive operations, words, states, outcomes, host events and composite operations of the block. -/
inductive Instr where
  /-- `WR CTRL, v` (R70, R21). -/
  | wrCtrl (v : Word)
  /-- `RD STATUS -> s` (R72, R22). -/
  | rdStatus
  /-- `WR WDATA, v` (R70, R23). -/
  | wrWdata (v : Word)
  /-- `RD RDATA -> v` (R72, R24). -/
  | rdRdata
  /-- `WR RDATA, 0`, the acknowledge half of RDACK (R73). -/
  | wrRdata
  /-- The Control word `ABORT` (R74, R52). -/
  | abort
  /-- The Control word `GO` (R86, R52). -/
  | go
  /-- A Status word of class Error (R109, R53). -/
  | statusError (w : Word)
  /-- A Status word of class Ready. -/
  | statusReady (w : Word)
  /-- A Status word of class Pending, which is Timeout at the last poll. -/
  | statusPending (w : Word)
  /-- Request dword 0, the header (R81). -/
  | reqHeader
  /-- Request dword 1, the length (R82). -/
  | reqDwordLength
  /-- Request dword 2, the command LOAD (R83). -/
  | reqCommandLoad
  /-- Request dword 3, reserved (R84). -/
  | reqReserved
  /-- Request dword `4 + i`, payload dword `i` (R85), `i` below 1024 (R54). -/
  | reqPayload (i : BitVec 10)
  /-- Response dword 0, the header echo (R92). -/
  | respHeaderEcho (v : Word)
  /-- Response dword 1, the length echo (R92). -/
  | respLengthEcho (v : Word)
  /-- Response dword 2, a next offset other than the sentinel (R110). -/
  | respNextOffset (v : Word)
  /-- Response dword 2, the terminal sentinel (R110). -/
  | respNextOffsetSentinel
  /-- A flags word with the ERROR flag set (R93, R56). -/
  | flagsRespError (w : Word)
  /-- A flags word with the ERROR flag clear (R93, R56). -/
  | flagsRespOk (w : Word)
  /-- The host event `START(base, totalSize)` (R101, R61). -/
  | start (base : Addr) (totalSize : Word)
  /-- The completion report `DONE(res, diag, wh, wl)` (R111, R61). -/
  | done
  /-- `MAP(base) -> r` (R37, R102). -/
  | map
  /-- `UNMAP` (R37, R111). -/
  | unmap
  /-- `IMG(a) -> v` (R34). -/
  | img (a : Word)
  /-- `TICK` (R106, R142). -/
  | tick
  /-- The step rule of state Idle (R101). -/
  | stIdle
  /-- The step rule of state Init (R102). -/
  | stInit
  /-- The step rule of state Aborting (R103). -/
  | stAborting
  /-- The step rules of state SendChunk (R104, R105). -/
  | stSendChunk
  /-- The step rule of state WaitReady (R106, R107). -/
  | stWaitReady
  /-- The step rules of state ReadResponse (R91, R110). -/
  | stReadResponse
  /-- The finishing step in state Done (R111). -/
  | stDone
  /-- The finishing step in state Failed (R111). -/
  | stFailed
  /-- Outcome code None (R16). -/
  | outcomeNone
  /-- Outcome code Ok (R130, R110). -/
  | outcomeOk
  /-- Outcome code Timeout (R130, R137). -/
  | outcomeTimeout
  /-- Outcome code Error (R130, R137). -/
  | outcomeError
  /-- The read-acknowledge `RDACK -> v` (R73). -/
  | rdack
  /-- `ENCODE x[offset], x[chunkSize]` (R80). -/
  | encode
  /-- `POLL -> class` (R106 to R109). -/
  | poll
  /-- `DECODE -> r` (R90). -/
  | decode
  /-- `STAGE base, total`, the whole run (R121). -/
  | stage (base : Addr) (totalSize : Word)
  deriving DecidableEq, Repr

end Sys2Proof
end

