-- ==== Sys2Proof/WellFormed.lean ====
section
/-! DEFINITION. Which operations are well formed: the words each row of spec/opcode_table.json admits. -/

namespace Sys2Proof

open Sys2Proof.Machine in
/-- The operand of `i` is one its row admits: a Control word is ABORT or GO (R51, R52), a Status word has the class of its
row (R53), a plain next offset is not the sentinel (R57 e), a flags word has the class of its row (R56). The premises of
`START` (R161) are no part of it: a `START` that breaks one is refused by its meaning. -/
def Instr.wf (c : Config) : Instr → Bool
  | .wrCtrl v => v == Config.ctrlAbortWord || v == Config.ctrlGoWord
  | .statusError w => statusErrorSet w
  | .statusReady w => statusReadySet w && !statusErrorSet w
  | .statusPending w => !statusReadySet w && !statusErrorSet w
  | .respNextOffset v => v != Config.terminalSentinel
  | .flagsRespError w => respErrorSet c w
  | .flagsRespOk w => !respErrorSet c w
  | .rdStatus | .wrWdata _ | .rdRdata | .wrRdata | .abort | .go
  | .reqHeader | .reqDwordLength | .reqCommandLoad | .reqReserved | .reqPayload _
  | .respHeaderEcho _ | .respLengthEcho _ | .respNextOffsetSentinel
  | .start _ _ | .done | .map | .unmap | .img _ | .tick
  | .stIdle | .stInit | .stAborting | .stSendChunk | .stWaitReady | .stReadResponse | .stDone | .stFailed
  | .outcomeNone | .outcomeOk | .outcomeTimeout | .outcomeError
  | .rdack | .encode | .poll | .decode | .stage _ _ => true

end Sys2Proof
end

