-- ==== Sys2Proof/Decode.lean ====
section
/-! DEFINITION. Decoding and encoding (spec/30_encoding.md R50 to R62). The block decodes no instruction stream: a word is
identified by the place it stands in (its format and, in a request or response, its dword index; R62) and then by its bits.
`Slot` is that place. A word the block produces has mask 0 in the table: its place alone selects the operation, and the
encoder writes its unselected bits as zero. Bytes of a word are listed lowest bits first (log entry 8). -/

namespace Sys2Proof

/-- The composite operations of R64 that are named by the host or the spec, not by a bit pattern. -/
inductive Composite where
  | rdack
  | encode
  | poll
  | decode
  | stage
  deriving DecidableEq, Repr

/-- Where a word stands: the format of R50 and the position in it. -/
inductive Slot where
  /-- A bus write: the offset, then 32 data bits (R51). -/
  | mmioWrite
  /-- A bus read: the offset (R51). -/
  | mmioRead
  /-- A word written to Control (R52). -/
  | control
  /-- A word read from Status (R53). -/
  | status
  /-- Dword `k` of the request (R54). -/
  | request (k : Nat)
  /-- Dword `k` of the response (R55); dword 3 is the flags word (R56). -/
  | response (k : Nat)
  /-- The host's command operands, `base` then `totalSize` (R61). -/
  | hostCommand
  /-- The completion report (R61). -/
  | hostReport
  /-- The two-bit outcome code (R16, R130). -/
  | hostDiag
  /-- The `MAP` event. -/
  | mapEvent
  /-- The `UNMAP` event. -/
  | unmapEvent
  /-- The `IMG` event: the byte address (R34). -/
  | imgEvent
  /-- The `TICK` event. -/
  | tickEvent
  /-- The three-bit state code (R14). -/
  | state
  /-- A composite operation (R64). -/
  | composite (k : Composite)
  deriving DecidableEq, Repr

/-- Why bytes in a slot are no operation of the block. -/
inductive DecodeError where
  /-- The slot holds another number of bytes. -/
  | wrongLength
  /-- An offset that is none of the four (R51, R71). -/
  | noSuchOffset
  /-- Control and Write-data are never read (R71). -/
  | neverRead
  /-- Status is never written (R71). -/
  | neverWritten
  /-- A Control word other than ABORT and GO (R52). -/
  | controlWord
  /-- An acknowledge that writes a value other than 0 (R71, R73). -/
  | acknowledgeNotZero
  /-- A request header other than HEADER_CONST (R81). -/
  | headerWord
  /-- A command code other than LOAD (R57 d). -/
  | commandWord
  /-- A reserved request dword other than 0 (R57 a). -/
  | reservedWord
  /-- A dword index beyond the object's end (R54, R55). -/
  | noSuchDword
  /-- A byte beyond the codes of its field (R14, R16). -/
  | noSuchCode
  deriving DecidableEq, Repr

/-- What a slot's bytes decode to. -/
inductive Decoded where
  | ok (i : Instr)
  | reject (e : DecodeError)
  deriving DecidableEq, Repr

/-- The four bytes of a word, lowest bits first. -/
def wordBytes (w : Word) : List Byte :=
  [w.extractLsb' 0 8, w.extractLsb' 8 8, w.extractLsb' 16 8, w.extractLsb' 24 8]

/-- A word from four bytes, the first the lowest bits: the little-endian assembly of R34 (D12). -/
def wordOfBytes (b0 b1 b2 b3 : Byte) : Word := b3 ++ b2 ++ b1 ++ b0

/-- The eight bytes of an address, lowest bits first. -/
def addrBytes (a : Addr) : List Byte :=
  wordBytes (a.extractLsb' 0 32) ++ wordBytes (a.extractLsb' 32 32)

/-- A bus write at offset `off` of the value `v` (R51, R71). -/
def decodeMmioWrite (off : Byte) (v : Word) : Decoded :=
  if off = 0x0#8 then
    (if v = Config.ctrlAbortWord ∨ v = Config.ctrlGoWord then .ok (.wrCtrl v) else .reject .controlWord)
  else if off = 0x4#8 then .reject .neverWritten
  else if off = 0x8#8 then .ok (.wrWdata v)
  else if off = 0xC#8 then (if v = 0#32 then .ok .wrRdata else .reject .acknowledgeNotZero)
  else .reject .noSuchOffset

/-- A bus read at offset `off` (R51, R71). -/
def decodeMmioRead (off : Byte) : Decoded :=
  if off = 0x4#8 then .ok .rdStatus
  else if off = 0xC#8 then .ok .rdRdata
  else if off = 0x0#8 ∨ off = 0x8#8 then .reject .neverRead
  else .reject .noSuchOffset

/-- A Control word (R52). -/
def decodeControl (w : Word) : Decoded :=
  if w = Config.ctrlAbortWord then .ok .abort
  else if w = Config.ctrlGoWord then .ok .go
  else .reject .controlWord

open Sys2Proof.Machine in
/-- A Status word, in the priority of R53. -/
def decodeStatus (w : Word) : Decoded :=
  match classify w with
  | .error => .ok (.statusError w)
  | .ready => .ok (.statusReady w)
  | .timeout => .ok (.statusPending w)

/-- Dword `k` of a request (R54). -/
def decodeRequest (c : Config) (k : Nat) (w : Word) : Decoded :=
  if k = 0 then (if w = c.headerConst then .ok .reqHeader else .reject .headerWord)
  else if k = 1 then .ok .reqDwordLength
  else if k = 2 then (if w = Config.cmdLoad then .ok .reqCommandLoad else .reject .commandWord)
  else if k = 3 then (if w = 0#32 then .ok .reqReserved else .reject .reservedWord)
  else if k < 1028 then .ok (.reqPayload (BitVec.ofNat 10 (k - 4)))
  else .reject .noSuchDword

open Sys2Proof.Machine in
/-- Dword `k` of a response (R55, R56). -/
def decodeResponse (c : Config) (k : Nat) (w : Word) : Decoded :=
  if k = 0 then .ok (.respHeaderEcho w)
  else if k = 1 then .ok (.respLengthEcho w)
  else if k = 2 then
    (if w = Config.terminalSentinel then .ok .respNextOffsetSentinel else .ok (.respNextOffset w))
  else if k = 3 then (if respErrorSet c w then .ok (.flagsRespError w) else .ok (.flagsRespOk w))
  else .reject .noSuchDword

/-- The outcome code (R16). -/
def decodeDiag (b : Byte) : Decoded :=
  if b = 0#8 then .ok .outcomeNone
  else if b = 1#8 then .ok .outcomeOk
  else if b = 2#8 then .ok .outcomeTimeout
  else if b = 3#8 then .ok .outcomeError
  else .reject .noSuchCode

/-- The state code (R14). -/
def decodeState (b : Byte) : Decoded :=
  if b = 0#8 then .ok .stIdle
  else if b = 1#8 then .ok .stInit
  else if b = 2#8 then .ok .stAborting
  else if b = 3#8 then .ok .stSendChunk
  else if b = 4#8 then .ok .stWaitReady
  else if b = 5#8 then .ok .stReadResponse
  else if b = 6#8 then .ok .stDone
  else if b = 7#8 then .ok .stFailed
  else .reject .noSuchCode

/-- A slot of no bytes. -/
def noBytes (d : Decoded) : List Byte → Decoded
  | [] => d
  | _ => .reject .wrongLength

/-- A slot of one byte. -/
def oneByte (f : Byte → Decoded) : List Byte → Decoded
  | [b] => f b
  | _ => .reject .wrongLength

/-- A slot of one word. -/
def oneWord (f : Word → Decoded) : List Byte → Decoded
  | [b0, b1, b2, b3] => f (wordOfBytes b0 b1 b2 b3)
  | _ => .reject .wrongLength

/-- A slot of one byte and one word. -/
def byteAndWord (f : Byte → Word → Decoded) : List Byte → Decoded
  | b :: bs => oneWord (f b) bs
  | [] => .reject .wrongLength

/-- A slot of one address and one word, each with its lowest bits first (R61). -/
def addrAndWord (f : Addr → Word → Decoded) : List Byte → Decoded
  | a0 :: a1 :: a2 :: a3 :: a4 :: a5 :: a6 :: a7 :: bs =>
    oneWord (f (wordOfBytes a4 a5 a6 a7 ++ wordOfBytes a0 a1 a2 a3)) bs
  | _ => .reject .wrongLength

/-- A composite operation (R64). -/
def decodeComposite : Composite → List Byte → Decoded
  | .rdack => noBytes (.ok .rdack)
  | .encode => noBytes (.ok .encode)
  | .poll => noBytes (.ok .poll)
  | .decode => noBytes (.ok .decode)
  | .stage => addrAndWord fun b t => .ok (.stage b t)

/-- Decode the bytes that stand in `slot`. -/
def decodeInstr (c : Config) (slot : Slot) (bytes : List Byte) : Decoded :=
  match slot with
  | .mmioWrite => byteAndWord decodeMmioWrite bytes
  | .mmioRead => oneByte decodeMmioRead bytes
  | .control => oneWord decodeControl bytes
  | .status => oneWord decodeStatus bytes
  | .request k => oneWord (decodeRequest c k) bytes
  | .response k => oneWord (decodeResponse c k) bytes
  | .hostCommand => addrAndWord (fun b t => .ok (.start b t)) bytes
  | .hostReport => oneByte (fun _ => .ok .done) bytes
  | .hostDiag => oneByte decodeDiag bytes
  | .mapEvent => noBytes (.ok .map) bytes
  | .unmapEvent => noBytes (.ok .unmap) bytes
  | .imgEvent => oneWord (fun a => .ok (.img a)) bytes
  | .tickEvent => noBytes (.ok .tick) bytes
  | .state => oneByte decodeState bytes
  | .composite k => decodeComposite k bytes

/-- The place an operation's word stands in. -/
def slotOf : Instr → Slot
  | .wrCtrl _ | .wrWdata _ | .wrRdata => .mmioWrite
  | .rdStatus | .rdRdata => .mmioRead
  | .abort | .go => .control
  | .statusError _ | .statusReady _ | .statusPending _ => .status
  | .reqHeader => .request 0
  | .reqDwordLength => .request 1
  | .reqCommandLoad => .request 2
  | .reqReserved => .request 3
  | .reqPayload i => .request (i.toNat + 4)
  | .respHeaderEcho _ => .response 0
  | .respLengthEcho _ => .response 1
  | .respNextOffset _ | .respNextOffsetSentinel => .response 2
  | .flagsRespError _ | .flagsRespOk _ => .response 3
  | .start _ _ => .hostCommand
  | .done => .hostReport
  | .map => .mapEvent
  | .unmap => .unmapEvent
  | .img _ => .imgEvent
  | .tick => .tickEvent
  | .stIdle | .stInit | .stAborting | .stSendChunk | .stWaitReady | .stReadResponse | .stDone | .stFailed => .state
  | .outcomeNone | .outcomeOk | .outcomeTimeout | .outcomeError => .hostDiag
  | .rdack => .composite .rdack
  | .encode => .composite .encode
  | .poll => .composite .poll
  | .decode => .composite .decode
  | .stage _ _ => .composite .stage

/-- How many bytes stand in a slot. -/
def slotBytes : Slot → Nat
  | .mmioWrite => 5
  | .mmioRead | .hostReport | .hostDiag | .state => 1
  | .control | .status | .request _ | .response _ | .imgEvent => 4
  | .hostCommand | .composite .stage => 12
  | .mapEvent | .unmapEvent | .tickEvent
  | .composite .rdack | .composite .encode | .composite .poll | .composite .decode => 0

/-- The bytes of `i` in its slot. -/
def encodeInstr (c : Config) : Instr → List Byte
  | .wrCtrl v => 0x0#8 :: wordBytes v
  | .rdStatus => [0x4#8]
  | .wrWdata v => 0x8#8 :: wordBytes v
  | .rdRdata => [0xC#8]
  | .wrRdata => 0xC#8 :: wordBytes 0#32
  | .abort => wordBytes Config.ctrlAbortWord
  | .go => wordBytes Config.ctrlGoWord
  | .statusError w | .statusReady w | .statusPending w => wordBytes w
  | .reqHeader => wordBytes c.headerConst
  | .reqDwordLength => wordBytes 0#32
  | .reqCommandLoad => wordBytes Config.cmdLoad
  | .reqReserved => wordBytes 0#32
  | .reqPayload _ => wordBytes 0#32
  | .respHeaderEcho v | .respLengthEcho v | .respNextOffset v => wordBytes v
  | .respNextOffsetSentinel => wordBytes Config.terminalSentinel
  | .flagsRespError w | .flagsRespOk w => wordBytes w
  | .start b t => addrBytes b ++ wordBytes t
  | .done => [0#8]
  | .map | .unmap | .tick => []
  | .img a => wordBytes a
  | .stIdle => [0#8]
  | .stInit => [1#8]
  | .stAborting => [2#8]
  | .stSendChunk => [3#8]
  | .stWaitReady => [4#8]
  | .stReadResponse => [5#8]
  | .stDone => [6#8]
  | .stFailed => [7#8]
  | .outcomeNone => [0#8]
  | .outcomeOk => [1#8]
  | .outcomeTimeout => [2#8]
  | .outcomeError => [3#8]
  | .rdack | .encode | .poll | .decode => []
  | .stage b t => addrBytes b ++ wordBytes t

/-! ### The table's words without their place

spec/opcode_table.json numbers a row's bits and leaves its place to the row's format, and several rows of different formats
share one word (`0x4` is `RD STATUS`, `STATUS.Error` and state WaitReady). `decodeTableWord` is told no format, so it
takes the places in one fixed order (log entry 9). -/

/-- The instruction of a decoding, where there is one. -/
def Decoded.toOption : Decoded → Option Instr
  | .ok i => some i
  | .reject _ => none

/-- A 32-bit table word: a Control word, a fixed request word, the sentinel, else a Status word. -/
def decodeTableDword (w : Word) : Decoded :=
  if w = Config.ctrlAbortWord then decodeInstr .reference .control (wordBytes w)
  else if w = Config.ctrlGoWord then decodeInstr .reference .control (wordBytes w)
  else if w = Config.reference.headerConst then decodeInstr .reference (.request 0) (wordBytes w)
  else if w = Config.cmdLoad then decodeInstr .reference (.request 2) (wordBytes w)
  else if w = 0#32 then decodeInstr .reference (.request 3) (wordBytes w)
  else if w = Config.terminalSentinel then decodeInstr .reference (.response 2) (wordBytes w)
  else decodeInstr .reference .status (wordBytes w)

/-- What the decoder reads from a table word of `nbits` bits whose bits are `w`. -/
def decodeTableWord (nbits w : Nat) : Option Instr :=
  if nbits ≤ 8 then
    (if w = 0x8 then (decodeInstr .reference .mmioWrite (0x8#8 :: wordBytes 0#32)).toOption
     else if w = 0xC then (decodeInstr .reference .mmioRead [0xC#8]).toOption
     else if w < 256 then (decodeInstr .reference .state [BitVec.ofNat 8 w]).toOption
     else none)
  else if nbits ≤ 32 then (decodeTableDword (BitVec.ofNat 32 w)).toOption
  else if nbits ≤ 96 then
    (decodeInstr .reference .hostCommand
      (addrBytes (BitVec.ofNat 64 w) ++ wordBytes (BitVec.ofNat 32 (w / 2 ^ 64)))).toOption
  else none

end Sys2Proof
end

