-- ==== Sys2Proof/Machine/State.lean ====
section
/-! DEFINITION. The state of the sequencer (spec/10_state.md R10 to R20, R28), the image buffer (R30 b), the inputs of its
environment (R25, R147) and the reasons a step can stop. Plain data throughout. -/

namespace Sys2Proof.Machine

/-- The control states (R13, R14). -/
inductive St where
  | idle
  | init
  | aborting
  | sendChunk
  | waitReady
  | readResponse
  | done
  | failed
  deriving DecidableEq, Repr

/-- The result of a run (R16). -/
inductive OutcomeCode where
  | none
  | ok
  | timeout
  | error
  deriving DecidableEq, Repr

/-- The two failure kinds (R130, R137). -/
inductive FailKind where
  | timeout
  | error
  deriving DecidableEq, Repr

/-- The four mailbox registers (R36). -/
inductive Reg where
  | ctrl
  | status
  | wdata
  | rdata
  deriving DecidableEq, Repr

/-- The answer of `MAP` (R20, R37). -/
inductive MapAnswer where
  | ok
  | fail
  deriving DecidableEq, Repr

/-- The response latches (R18). -/
inductive Latch where
  | header
  | length
  | next
  | flags
  deriving DecidableEq, Repr

/-- The events of R20. A bus access carries its effective address `base + OFF_reg` beside the register (R31, R32). -/
inductive Event where
  | start (base : Addr) (totalSize : Word)
  | map (base : Addr) (r : MapAnswer)
  | wr (reg : Reg) (addr : Addr) (v : Word)
  | rd (reg : Reg) (addr : Addr) (v : Word)
  | img (a : Word) (v : Word)
  | tick
  | unmap
  | done (res : Bool) (diag : OutcomeCode) (wh wl : Bool)
  deriving DecidableEq, Repr

/-- Memory in its canonical form: address and byte pairs, addresses rising, no byte that an unlisted address reads as. -/
abbrev Memory := List Host.Cell

/-- A host command waiting to be sent: the operands of `START` and the image the host offers with it (R147). -/
structure HostCommand where
  base : Addr
  totalSize : Word
  image : Memory
  deriving DecidableEq, Repr

/-- The state of the sequencer and of the environment it sees. -/
structure State where
  /-- The OPEN parameters (R5, D8); no step writes them. -/
  cfg : Config
  /-- The byte offset of the current chunk, or the end mark (R10). -/
  offset : Word
  /-- The bytes of the chunks whose wait ended Ready (R10). -/
  bytesTransferred : Word
  /-- The length of the image (R10). -/
  totalSize : Word
  /-- The physical base address of the mailbox window (R11). -/
  base : Addr
  /-- The size of the current chunk in bytes, 13 bits (R12). -/
  chunkSize : BitVec 13
  /-- The control state: with `seq`, this block's program counter (R13). -/
  st : St
  /-- The sub-step counter, 11 bits (R13). -/
  seq : BitVec 11
  /-- The Status reads of the current wait, 14 bits (R15, R142). -/
  pollCount : BitVec 14
  /-- The most recent Status sample (R15). -/
  lastStatus : Word
  /-- The result of the run (R16). -/
  outcome : OutcomeCode
  /-- Sticky: a header echo mismatched (R17). -/
  warnHdr : Bool
  /-- Sticky: a length echo mismatched (R17). -/
  warnLen : Bool
  /-- Response latch 0 (R18). -/
  respHeader : Word
  /-- Response latch 1 (R18). -/
  respLength : Word
  /-- Response latch 2 (R18). -/
  respNext : Word
  /-- Response latch 3 (R18). -/
  respFlags : Word
  /-- The window is held (R19). -/
  mapped : Bool
  /-- The events of the current run, oldest first (R9, R20). -/
  trace : List Event
  /-- The image buffer the host gave access to (R30 b). -/
  image : Memory
  /-- Input: the answers the environment will give to `MAP`, next first (R25). -/
  mapIn : List MapAnswer
  /-- Input: the values Status will present, next first (R25). -/
  statusIn : List Word
  /-- Input: the values Read-data will present, next first (R25). -/
  rdataIn : List Word
  /-- Input: the commands the host is waiting to send, next first (R147). -/
  hostIn : List HostCommand
  /-- Input: reset is asserted (R160). -/
  resetIn : Bool
  /-- The model's own: how many free values have been drawn. -/
  draws : Nat
  deriving DecidableEq, Repr

/-- Where the spec gives the block no behaviour. -/
inductive Fault where
  /-- Raised by `IMG` when its four bytes are not all inside the image (R34, U1: the spec asks for this fault). Safe. -/
  | imageOutOfBounds
  /-- Raised by the encoder when the chunk size is not a multiple of 4 (R88, U2: the spec asks for this fault). Safe. -/
  | chunkNotDwordMultiple
  /-- Raised by a bus access made while the window is not held (R19, R70, R72: an access requires `mapped = 1`); no run
  reaches it. Safe. -/
  | windowNotMapped
  /-- Raised by the step rules of SendChunk and ReadResponse at a value of `seq` that no rule names (R13, R91, R105); no
  run reaches it. Safe. -/
  | subStepWithoutRule
  /-- Raised by `STAGE` where the run it stands for never ends (the loop of empty chunks, R116): such a run has no state
  after it (R170). The steps of that run go on without it. Safe. -/
  | runNeverEnds
  deriving DecidableEq, Repr

/-- Inputs the spec gives no run. -/
inductive Refusal where
  /-- Raised by no meaning: the arm of an operation that has none. Safe. -/
  | notModelled (mnemonic : String)
  /-- Raised by `START` outside Idle (premise P1, U6). Safe. -/
  | startNotIdle
  /-- Raised by `START` when the image is no byte sequence inside `totalSize` (premise P3, U13). Safe. -/
  | startImage
  /-- Raised by `START` when `totalSize` is not a multiple of 4 (premise P5, U5). Safe. -/
  | startSizeNotDwords
  /-- Raised by `START` when `totalSize` exceeds TOTAL_SIZE_MAX (premise P6, U5). Safe. -/
  | startSizeTooLarge
  /-- Raised by `START` when `base` is not a multiple of 4 or the window passes the end of the address space (premise P7,
  U14). Safe. -/
  | startBase
  /-- Raised by the step when the state code decodes to no operation; every code decodes (R14). Safe. -/
  | undecodable
  deriving DecidableEq, Repr

/-- The machine right after reset (R28, R160). `st`, `seq`, `mapped`, `outcome` and the warnings have the spec's values; the
registers it leaves unspecified are zero (DESIGN CHOICE, log entry 2); no input is pending; the parameters are the
reference instance (log entry 3). -/
def State.reset : State where
  cfg := .reference
  offset := 0
  bytesTransferred := 0
  totalSize := 0
  base := 0
  chunkSize := 0
  st := .idle
  seq := 0
  pollCount := 0
  lastStatus := 0
  outcome := .none
  warnHdr := false
  warnLen := false
  respHeader := 0
  respLength := 0
  respNext := 0
  respFlags := 0
  mapped := false
  trace := []
  image := []
  mapIn := []
  statusIn := []
  rdataIn := []
  hostIn := []
  resetIn := false
  draws := 0

end Sys2Proof.Machine
end

