-- ==== Sys2Proof/Machine/Operands.lean ====
section
/-! DEFINITION. How each address and each computed word is assembled (spec/20_memory.md R32, R34; spec/30_encoding.md R58,
R59; spec/43 R113, R114), and the codes of the state and outcome registers (R14, R16). -/

namespace Sys2Proof.Machine

/-- The byte offset of a mailbox register (R4, R36). -/
def regOffset : Reg → Addr
  | .ctrl => Config.offCtrl
  | .status => Config.offStatus
  | .wdata => Config.offWdata
  | .rdata => Config.offRdata

/-- The effective address `base + OFF_reg`, in 64 bits (R32). -/
def regAddr (base : Addr) (r : Reg) : Addr := base + regOffset r

/-- The state code (R14). -/
def stCode : St → BitVec 3
  | .idle => 0
  | .init => 1
  | .aborting => 2
  | .sendChunk => 3
  | .waitReady => 4
  | .readResponse => 5
  | .done => 6
  | .failed => 7

/-- The outcome code (R16). -/
def outcomeBits : OutcomeCode → BitVec 2
  | .none => 0
  | .ok => 1
  | .timeout => 2
  | .error => 3

/-- The outcome a failure kind leaves (R137). -/
def FailKind.outcome : FailKind → OutcomeCode
  | .timeout => .timeout
  | .error => .error

/-- `chunkSize = min(PAGE_SIZE, totalSize -32 offset)` (R104, R113); the subtraction wraps (D9). -/
def chunkSizeOf (totalSize offset : Word) : BitVec 13 :=
  BitVec.ofNat 13 (min Config.pageSize (totalSize - offset).toNat)

/-- `bytesTransferred + chunkSize > 2 × totalSize` over the naturals (R104, R114). -/
def overBudget (bytesTransferred : Word) (chunkSize : BitVec 13) (totalSize : Word) : Bool :=
  decide (bytesTransferred.toNat + chunkSize.toNat > Config.budgetFactor * totalSize.toNat)

/-- `n = chunkSize / 4`, the payload dwords of a chunk (R58, R80): the floor, also where `chunkSize` is no multiple of 4, on
which R88 makes no choice (DESIGN CHOICE, unsafe, log entry 23). -/
def payloadCount (chunkSize : BitVec 13) : Nat := chunkSize.toNat / 4

/-- `dwordLength = chunkSize / 4 + HEADER_DWORDS` (R58, R82). -/
def dwordLength (chunkSize : BitVec 13) : Word :=
  BitVec.ofNat 32 (payloadCount chunkSize + Config.headerDwords)

/-- The byte address of payload dword `i`: `offset +32 4·i` (R59, R85). -/
def payloadAddr (offset : Word) (i : Nat) : Word := offset + BitVec.ofNat 32 (4 * i)

/-- The sub-step of SendChunk that writes GO: `5 + n` (R86, R105). -/
def goSubStep (chunkSize : BitVec 13) : Nat := 5 + payloadCount chunkSize

/-- The latch filled by the read at `seq = 2j` (R91); at another `seq` no latch is filled. -/
def latchOf (seq : BitVec 11) : Option Latch :=
  if seq = 0#11 then some .header
  else if seq = 2#11 then some .length
  else if seq = 4#11 then some .next
  else if seq = 6#11 then some .flags
  else none

end Sys2Proof.Machine
end

