-- ==== Sys2Proof/Machine/Ops.lean ====
section
/-! DEFINITION. The named operations over the image buffer and the registers: the only ways a step touches them. The
failure entry `raise Fail(kind)` (spec/60_exceptions.md R137), the completion that answers it (R139, R111) and reset (R160)
stand here once. -/

namespace Sys2Proof.Machine

/-- What an operation answers. -/
abbrev Res := Host.Outcome State Fault Refusal

/-- Go on with `f` where `r` answered a next state; a stop stays a stop. -/
def andThen (r : Res) (f : State → Res) : Res :=
  match r with
  | .next s => f s
  | .fault e => .fault e
  | .refused e => .refused e

/-! ### The image buffer (R30 b) -/

/-- What an address that no entry lists reads as (log entry 5). -/
def unlistedByte : Byte := 0#8

/-- The byte at an address. -/
def Memory.read : Memory → Nat → Byte
  | [], _ => unlistedByte
  | (k, v) :: m, a => if a = k then v else Memory.read m a

/-- Put a byte at an address, keeping the canonical form. Only the host fills an image: no step calls this. -/
def Memory.write : Memory → Nat → Byte → Memory
  | [], a, b => if b = unlistedByte then [] else [(a, b)]
  | (k, v) :: m, a, b =>
    if a < k then (if b = unlistedByte then (k, v) :: m else (a, b) :: (k, v) :: m)
    else if a = k then (if b = unlistedByte then m else (a, b) :: m)
    else (k, v) :: Memory.write m a b

/-- The image of the bytes of a list from address `a` on. -/
def Memory.ofBytes (a : Nat) : List Byte → Memory
  | [] => []
  | b :: bs => Memory.write (Memory.ofBytes (a + 1) bs) a b

/-- Every entry lies above `lo`, rises, and is no unlisted byte. -/
def Memory.risesFrom (lo : Nat) : Memory → Bool
  | [] => true
  | (k, v) :: m => decide (lo ≤ k) && v != unlistedByte && Memory.risesFrom (k + 1) m

/-- The canonical form: addresses strictly rising, no entry equal to what an unlisted address reads as. -/
def Memory.wf (m : Memory) : Bool := Memory.risesFrom 0 m

/-- No entry lies at or beyond `n`: the memory is a byte sequence of length `n` (R30 b, premise P3). -/
def Memory.below (n : Nat) (m : Memory) : Bool := m.all fun c => decide (c.1 < n)

/-- The dword at byte address `a`, little-endian (R34, D12). -/
def Memory.readDword (m : Memory) (a : Nat) : Word :=
  wordOfBytes (Memory.read m a) (Memory.read m (a + 1)) (Memory.read m (a + 2)) (Memory.read m (a + 3))

/-- All four bytes of the fetch are inside the image: `a + 3 < totalSize` (R34). -/
def imageInBounds (totalSize a : Word) : Bool := decide (a.toNat + 3 < totalSize.toNat)

/-! ### The control state and the trace -/

/-- `pc <- S`: `x[st] <- S; x[seq] <- 0` (R8, R13). -/
def State.goto (s : State) (t : St) : State := { s with st := t, seq := 0#11 }

/-- `seq <- seq + 1` (R13). -/
def State.advance (s : State) : State := { s with seq := s.seq + 1#11 }

/-- Record one event, after every event recorded before it (R8, R38). -/
def State.emit (s : State) (e : Event) : State := { s with trace := s.trace ++ [e] }

/-- `raise Fail(kind)`: the one failure entry (R137). Nothing else is saved and no event is recorded. -/
def raiseFail (kind : FailKind) (s : State) : State :=
  { s with outcome := kind.outcome, st := .failed, seq := 0#11 }

/-- Store a response dword in a latch (R18, R91). -/
def State.setLatch (s : State) (l : Latch) (v : Word) : State :=
  match l with
  | .header => { s with respHeader := v }
  | .length => { s with respLength := v }
  | .next => { s with respNext := v }
  | .flags => { s with respFlags := v }

/-! ### What the environment answers (R25, U7) -/

/-- The value Status presents at this moment. -/
def statusAnswer (s : State) : Word :=
  match s.statusIn with
  | v :: _ => v
  | [] => Config.freeStatus s.draws

/-- The state once Status has been read. -/
def afterStatusAnswer (s : State) : State :=
  match s.statusIn with
  | _ :: vs => { s with statusIn := vs }
  | [] => { s with draws := s.draws + 1 }

/-- The value Read-data presents at this moment. -/
def rdataAnswer (s : State) : Word :=
  match s.rdataIn with
  | v :: _ => v
  | [] => Config.freeRdata s.draws

/-- The state once Read-data has been read. -/
def afterRdataAnswer (s : State) : State :=
  match s.rdataIn with
  | _ :: vs => { s with rdataIn := vs }
  | [] => { s with draws := s.draws + 1 }

/-- What `MAP` is answered. -/
def mapAnswer (s : State) : MapAnswer :=
  match s.mapIn with
  | r :: _ => r
  | [] => if Config.freeMapOk s.draws then .ok else .fail

/-- The state once `MAP` has been answered. -/
def afterMapAnswer (s : State) : State :=
  match s.mapIn with
  | _ :: rs => { s with mapIn := rs }
  | [] => { s with draws := s.draws + 1 }

/-! ### The ports -/

/-- `WR(reg, v)`: one 32-bit write at `base + OFF_reg` (R31, R70). -/
def wrPort (r : Reg) (v : Word) (s : State) : Res :=
  if s.mapped then .next (s.emit (.wr r (regAddr s.base r) v)) else .fault .windowNotMapped

/-- `RD(STATUS) -> s`, stored in `lastStatus` (R72, R106). -/
def rdStatusPort (s : State) : Res :=
  if s.mapped then
    .next { (afterStatusAnswer s).emit (.rd .status (regAddr s.base .status) (statusAnswer s)) with
      lastStatus := statusAnswer s }
  else .fault .windowNotMapped

/-- Store in a latch, where there is one. -/
def State.setLatch? (s : State) (l : Option Latch) (v : Word) : State :=
  match l with
  | some l => s.setLatch l v
  | none => s

/-- `RD(RDATA) -> v`, stored in the latch of the caller (R72, R91). -/
def rdRdataPort (l : Option Latch) (s : State) : Res :=
  if s.mapped then
    .next (((afterRdataAnswer s).emit (.rd .rdata (regAddr s.base .rdata) (rdataAnswer s))).setLatch? l
      (rdataAnswer s))
  else .fault .windowNotMapped

/-- `IMG(a) -> v` (R34): the fetch, or the model fault U1. -/
def imgPort (a : Word) (s : State) : Res :=
  if imageInBounds s.totalSize a then
    .next (s.emit (.img a (Memory.readDword s.image a.toNat)))
  else .fault .imageOutOfBounds

/-- `MAP(base) -> r`; `r = ok` sets `mapped` (R37). -/
def mapPort (s : State) : State :=
  { (afterMapAnswer s).emit (.map s.base (mapAnswer s)) with
    mapped := if mapAnswer s = .ok then true else s.mapped }

/-- `UNMAP` releases the window; it is not issued while no window is held (R37, R111). -/
def unmapPort (s : State) : State :=
  if s.mapped then { s.emit .unmap with mapped := false } else s

/-- `TICK`: the next event of the 1 ms timebase, counted by `pollCount` (R106, R142). -/
def tickPort (s : State) : State := { s.emit .tick with pollCount := s.pollCount + 1#14 }

/-- `DONE(res, diag, wh, wl)` (R111, R61): `res = 1` exactly when `diag = Ok`. With outcome
None, which R20, R61 and R130 never report, it records `DONE(0, None, wh, wl)` (DESIGN CHOICE, unsafe, log entry 24). -/
def donePort (s : State) : State :=
  s.emit (.done (decide (s.outcome = .ok)) s.outcome s.warnHdr s.warnLen)

/-- The finishing step, the one return path for success and failure alike (R111, R139). -/
def finish (s : State) : State := (donePort (unmapPort s)).goto .idle

/-! ### Reset (R160) -/

/-- Reset asserted in any state: the run is abandoned where it stands and no event is recorded. What belongs to the
environment (the image, the pending inputs) and the fixed parameters stay. -/
def hardReset (s : State) : State :=
  { State.reset with
    cfg := s.cfg, image := s.image, mapIn := s.mapIn, statusIn := s.statusIn, rdataIn := s.rdataIn,
    hostIn := s.hostIn, draws := s.draws }

end Sys2Proof.Machine
end

