-- ==== Sys2Proof/Machine/HostPort.lean ====
section
/-! DEFINITION. The host interface: the rows of format HOST, the outcome codes among them (spec/43 R101, R111;
spec/70 R161; spec/10 R16; spec/60 R130, R137). -/

namespace Sys2Proof.Machine

/-- The premise of R161 that `START(b, t)` breaks in `s`, if it breaks one the sequencer can see. -/
def startPremiseBroken (b : Addr) (t : Word) (s : State) : Option Refusal :=
  if s.st ≠ .idle then some .startNotIdle
  else if t.toNat > Config.totalSizeMax then some .startSizeTooLarge
  else if t.toNat % 4 ≠ 0 then some .startSizeNotDwords
  else if b.toNat % 4 ≠ 0 ∨ b.toNat + 15 ≥ 2 ^ 64 then some .startBase
  else if ¬ (Memory.wf s.image ∧ Memory.below t.toNat s.image) then some .startImage
  else none

/-- An accepted `START`: the operands are latched and a new trace begins (R101). -/
def acceptStart (b : Addr) (t : Word) (s : State) : State :=
  { s with base := b, totalSize := t, trace := [.start b t], st := .init, seq := 0#11 }

/-- `START(b, t)` (R101); one that breaks a premise is refused (R161, U5, U6, U13, U14). -/
def execStart (b : Addr) (t : Word) (s : State) : Res :=
  match startPremiseBroken b t s with
  | some r => .refused r
  | none => .next (acceptStart b t s)

/-- `DONE(res, diag, wh, wl)` (R111); with outcome None see log entry 24. -/
def execDone (s : State) : Res := .next (donePort s)

/-- `outcome <- None` (R16, R102). -/
def clearOutcome (s : State) : State := { s with outcome := .none }

/-- Outcome None: the result of a run that has none yet (R16). -/
def execOutcomeNone (s : State) : Res := .next (clearOutcome s)

/-- Outcome Ok: `outcome <- Ok; pc <- Done` (R16, R110). -/
def execOutcomeOk (s : State) : Res := .next ({ s with outcome := .ok }.goto .done)

/-- Outcome Timeout: `raise Fail(Timeout)` (R131, R137). -/
def execOutcomeTimeout (s : State) : Res := .next (raiseFail .timeout s)

/-- Outcome Error: `raise Fail(Error)` (R132, R137). -/
def execOutcomeError (s : State) : Res := .next (raiseFail .error s)

end Sys2Proof.Machine
end

