-- ==== Sys2Proof/Machine/Port.lean ====
section
/-! DEFINITION. The Register Port and the event ports: the rows of format MMIO, CTRL and EVENT, and `RDACK`
(spec/40_register_port.md R70 to R76; spec/20_memory.md R34, R37; spec/43 R106). -/

namespace Sys2Proof.Machine

/-- `WR CTRL, v` (R70, R21). -/
def execWrCtrl (v : Word) (s : State) : Res := wrPort .ctrl v s

/-- `RD STATUS -> s`: the most recent sample is kept in `lastStatus` (R72, R15). -/
def execRdStatus (s : State) : Res := rdStatusPort s

/-- `WR WDATA, v` (R70, R23). -/
def execWrWdata (v : Word) (s : State) : Res := wrPort .wdata v s

/-- `RD RDATA -> v`: stored in the latch that `seq` names (R72, R91). -/
def execRdRdata (s : State) : Res := rdRdataPort (latchOf s.seq) s

/-- `WR RDATA, 0`: the acknowledge (R73). -/
def execWrRdata (s : State) : Res := wrPort .rdata 0#32 s

/-- `ABORT` is `WR CTRL, 0x0000_0001` (R74). -/
def execAbort (s : State) : Res := wrPort .ctrl Config.ctrlAbortWord s

/-- `GO` is `WR CTRL, 0x8000_0000` (R86). -/
def execGo (s : State) : Res := wrPort .ctrl Config.ctrlGoWord s

/-- `MAP(base) -> r` (R37). -/
def execMap (s : State) : Res := .next (mapPort s)

/-- `UNMAP` (R37). -/
def execUnmap (s : State) : Res := .next (unmapPort s)

/-- `IMG(a) -> v` (R34). -/
def execImg (a : Word) (s : State) : Res := imgPort a s

/-- `TICK`: consumed only in WaitReady (R135, R142). -/
def execTick (s : State) : Res := .next (if s.st = .waitReady then tickPort s else s)

/-- A read-acknowledge into a latch: the read, then at once the write of 0 (R73). -/
def rdackPort (l : Option Latch) (s : State) : Res :=
  andThen (rdRdataPort l s) fun t => wrPort .rdata 0#32 t

/-- `RDACK -> v` (R73). -/
def execRdack (s : State) : Res := rdackPort (latchOf s.seq) s

end Sys2Proof.Machine
end

