-- ==== Sys2Proof/Machine/Poll.lean ====
section
/-! DEFINITION. The wait: the rows of format STATUS and `POLL` (spec/43_transaction_coordinator.md R106 to R109). -/

namespace Sys2Proof.Machine

/-- The wait ends in the step that read `w`: `exit(w)` or `pollCount = POLL_MAX` (R106). -/
def waitEnds (w : Word) (s : State) : Bool :=
  pollExit s.cfg w || decide (s.pollCount.toNat = Config.pollMax)

/-- A sample of class Error: `raise Fail(Error)` if it ends the wait, else polling goes on (R106 to R109). -/
def sampledError (w : Word) (s : State) : State :=
  if waitEnds w s then raiseFail .error s else s

/-- A sample of class Ready, which always ends the wait: the chunk is counted and the response is read (R107). -/
def sampledReady (s : State) : State :=
  { s with bytesTransferred := s.bytesTransferred + s.chunkSize.setWidth 32, st := .readResponse, seq := 0#11 }

/-- A sample of class Pending: `raise Fail(Timeout)` if it is the `POLL_MAX`-th, else polling goes on (R107, R109). -/
def sampledPending (w : Word) (s : State) : State :=
  if waitEnds w s then raiseFail .timeout s else s

/-- A Status word of class Error (R109), as what R107 does with a sample already taken: the row writes neither `lastStatus`
nor `pollCount` (DESIGN CHOICE, unsafe, log entry 25). -/
def execStatusError (w : Word) (s : State) : Res := .next (sampledError w s)

/-- A Status word of class Ready (R109), as what R107 does with a sample already taken: the row writes neither `lastStatus`
nor `pollCount` (DESIGN CHOICE, unsafe, log entry 25). -/
def execStatusReady (_w : Word) (s : State) : Res := .next (sampledReady s)

/-- A Status word of class Pending (R109), as what R107 does with a sample already taken: the row writes neither `lastStatus`
nor `pollCount` (DESIGN CHOICE, unsafe, log entry 25). -/
def execStatusPending (w : Word) (s : State) : Res := .next (sampledPending w s)

/-- What the step that read the sample `x[lastStatus]` does with it (R107). -/
def endPoll (s : State) : State :=
  match classify s.lastStatus with
  | .error => sampledError s.lastStatus s
  | .ready => sampledReady s
  | .timeout => sampledPending s.lastStatus s

/-- One poll: `TICK`, then `RD STATUS` (R106). -/
def pollOnce (s : State) : Res := rdStatusPort (tickPort s)

/-- At most `k` polls, stopping when the wait ends (R64, R106). -/
def pollUpTo : Nat → State → Res
  | 0, s => .next s
  | k + 1, s => andThen (pollOnce s) fun t => if waitEnds t.lastStatus t then .next t else pollUpTo k t

/-- `pollCount <- 0`, the start of a wait (R15, R121). -/
def clearPolls (s : State) : State := { s with pollCount := 0#14 }

/-- `POLL -> class` (R64, R106): the class is that of `x[lastStatus]` (R109). -/
def execPoll (s : State) : Res := pollUpTo Config.pollMax (clearPolls s)

end Sys2Proof.Machine
end

