-- ==== Sys2Proof/Machine/Request.lean ====
section
/-! DEFINITION. The Request Encoder: the rows of format REQ and `ENCODE` (spec/41_request_encoder.md R80 to R88). -/

namespace Sys2Proof.Machine

/-- Request dword 0: `WR WDATA, HEADER_CONST` (R81). -/
def execReqHeader (s : State) : Res := wrPort .wdata s.cfg.headerConst s

/-- Request dword 1: `WR WDATA, n + 4` (R82). With a chunk size that is no multiple of 4, where R88 chooses neither the
floor nor padding, `n` is the floor and there is no fault (DESIGN CHOICE, unsafe, log entry 23). -/
def execReqDwordLength (s : State) : Res := wrPort .wdata (dwordLength s.chunkSize) s

/-- Request dword 2: `WR WDATA, 0x0000_0003` (R83). -/
def execReqCommandLoad (s : State) : Res := wrPort .wdata Config.cmdLoad s

/-- Request dword 3: `WR WDATA, 0x0000_0000` (R84). -/
def execReqReserved (s : State) : Res := wrPort .wdata 0#32 s

/-- Payload dword `i`: the fetch, then the write that sends it (R85, D22). -/
def payloadDword (i : Nat) (s : State) : Res :=
  andThen (imgPort (payloadAddr s.offset i) s) fun t =>
    wrPort .wdata (Memory.readDword s.image (payloadAddr s.offset i).toNat) t

/-- Request dword `4 + i` (R85). For `i ≥ n`, where R54 and R85 give no payload dword, it is fetched and written all the
same (DESIGN CHOICE, unsafe, log entry 22). -/
def execReqPayload (i : BitVec 10) (s : State) : Res := payloadDword i.toNat s

/-- The payload dwords `i, i + 1, …`, `k` of them, in increasing order (R85). -/
def payloadFrom : Nat → Nat → State → Res
  | 0, _, s => .next s
  | k + 1, i, s => andThen (payloadDword i s) (payloadFrom k (i + 1))

/-- A chunk whose size is not a multiple of 4 is the model fault U2, before any write of the chunk (R88, R105). -/
def chunkIsDwords (chunkSize : BitVec 13) : Bool := decide (chunkSize.toNat % 4 = 0)

/-- `ENCODE x[offset], x[chunkSize]` (R80): header, length, command, reserved, payload, GO. -/
def execEncode (s : State) : Res :=
  if chunkIsDwords s.chunkSize then
    andThen (execReqHeader s) fun s =>
    andThen (execReqDwordLength s) fun s =>
    andThen (execReqCommandLoad s) fun s =>
    andThen (execReqReserved s) fun s =>
    andThen (payloadFrom (payloadCount s.chunkSize) 0 s) execGo
  else .fault .chunkNotDwordMultiple

end Sys2Proof.Machine
end

