-- ==== Sys2Proof/Machine/Response.lean ====
section
/-! DEFINITION. The Response Decoder: the rows of format RESP and FLAGS, and `DECODE` (spec/42_response_decoder.md R90 to
R95), with what the Coordinator does with its result (spec/43 R110). -/

namespace Sys2Proof.Machine

/-- The header echo is latched and compared; a mismatch sets the sticky warning and changes nothing else (R92). -/
def checkHeaderEcho (v : Word) (s : State) : State :=
  { s with respHeader := v, warnHdr := s.warnHdr || v != s.cfg.headerConst }

/-- The length echo is latched and compared (R92). -/
def checkLengthEcho (v : Word) (s : State) : State :=
  { s with respLength := v, warnLen := s.warnLen || v != s.cfg.respLenExpected }

/-- Response dword 0 (R92). -/
def execRespHeaderEcho (v : Word) (s : State) : Res := .next (checkHeaderEcho v s)

/-- Response dword 1 (R92). -/
def execRespLengthEcho (v : Word) (s : State) : Res := .next (checkLengthEcho v s)

/-- `Ok(nx)` with another next offset than the sentinel: the loop goes on (R110). -/
def nextChunk (nx : Word) (s : State) : State :=
  { s with respNext := nx, offset := nx, st := .sendChunk, seq := 0#11 }

/-- `Ok(sentinel)`: the loop ends with success (R110). -/
def endOfImage (s : State) : State :=
  { s with
    respNext := Config.terminalSentinel, offset := Config.terminalSentinel, outcome := .ok, st := .done, seq := 0#11 }

/-- A next offset, taken as read with no check (R110, R117). -/
def execRespNextOffset (v : Word) (s : State) : Res := .next (nextChunk v s)

/-- The terminal sentinel (R110). -/
def execRespNextOffsetSentinel (s : State) : Res := .next (endOfImage s)

/-- The result `Ok(respNext)` (R93, R110). -/
def responseOk (s : State) : State :=
  if s.respNext = Config.terminalSentinel then endOfImage s else nextChunk s.respNext s

/-- A flags word with ERROR set: `raise Fail(Error)`, `offset` unchanged (R93, R110). -/
def execFlagsRespError (w : Word) (s : State) : Res := .next (raiseFail .error { s with respFlags := w })

/-- A flags word with ERROR clear: the result is `Ok(respNext)` (R93, R110). -/
def execFlagsRespOk (w : Word) (s : State) : Res := .next (responseOk { s with respFlags := w })

/-- What the step that acknowledged the flags word does with the response (R93, R110). -/
def endResponse (s : State) : State :=
  if respErrorSet s.cfg s.respFlags then raiseFail .error s else responseOk s

/-- `DECODE -> r` (R90): four read-acknowledges into the four latches, with the echo checks. The result is the function of
the latches that `endResponse` tests (R93); what the Coordinator does with it is no part of `DECODE`. -/
def execDecode (s : State) : Res :=
  andThen (rdackPort (some .header) s) fun s =>
  andThen (rdackPort (some .length) (checkHeaderEcho s.respHeader s)) fun s =>
  andThen (rdackPort (some .next) (checkLengthEcho s.respLength s)) fun s =>
  rdackPort (some .flags) s

end Sys2Proof.Machine
end

