-- ==== Sys2Proof/Machine/Coordinator.lean ====
section
/-! DEFINITION. The Transaction Coordinator: the step rule of every state (the rows of format STATE) and `STAGE`
(spec/43_transaction_coordinator.md R100 to R121). -/

namespace Sys2Proof.Machine

/-- Idle takes the command the host is waiting to send, with the image it offers; with none, nothing is enabled and the
sequencer rests (R101, R146, R147). -/
def execStIdle (s : State) : Res :=
  match s.hostIn with
  | [] => .next s
  | c :: cs => execStart c.base c.totalSize { s with hostIn := cs, image := c.image }

/-- What Init clears (R102). -/
def clearRun (s : State) : State :=
  clearOutcome { s with offset := 0#32, bytesTransferred := 0#32, warnHdr := false, warnLen := false }

/-- Init: clear, `MAP`, then Aborting or the mapping failure (R102). -/
def initStep (s : State) : State :=
  match mapAnswer s with
  | .ok => (mapPort (clearRun s)).goto .aborting
  | .fail => raiseFail .error (mapPort (clearRun s))

/-- The step rule of Init (R102). -/
def execStInit (s : State) : Res := .next (initStep s)

/-- Aborting: the one `ABORT` of the run (R103). -/
def execStAborting (s : State) : Res := andThen (execAbort s) fun t => .next (t.goto .sendChunk)

/-- The planning step: the chunk and the budget, before any event of the chunk (R104). -/
def planChunk (s : State) : State :=
  let c := chunkSizeOf s.totalSize s.offset
  if overBudget s.bytesTransferred c s.totalSize then raiseFail .timeout { s with chunkSize := c }
  else { s with chunkSize := c, seq := 1#11 }

/-- After `GO`: `pollCount <- 0; pc <- WaitReady` (R105). -/
def enterWait (s : State) : State := (clearPolls s).goto .waitReady

/-- One sub-step of `ENCODE`: issue it, then `seq <- seq + 1` (R105). -/
def subStep (r : Res) : Res := andThen r fun t => .next t.advance

/-- The sub-steps of `ENCODE`, `seq ≥ 1` (R105). The chunk size is checked at `seq = 1` alone; beyond it `n` is the floor
(DESIGN CHOICE, unsafe, log entry 23). -/
def sendSubStep (s : State) : Res :=
  if s.seq = 1#11 then
    (if chunkIsDwords s.chunkSize then subStep (execReqHeader s) else .fault .chunkNotDwordMultiple)
  else if s.seq = 2#11 then subStep (execReqDwordLength s)
  else if s.seq = 3#11 then subStep (execReqCommandLoad s)
  else if s.seq = 4#11 then subStep (execReqReserved s)
  else if s.seq.toNat < goSubStep s.chunkSize then subStep (payloadDword (s.seq.toNat - 5) s)
  else if s.seq.toNat = goSubStep s.chunkSize then andThen (execGo s) fun t => .next (enterWait t)
  else .fault .subStepWithoutRule

/-- The step rules of SendChunk (R104, R105). -/
def execStSendChunk (s : State) : Res :=
  if s.seq = 0#11 then .next (planChunk s) else sendSubStep s

/-- The step rule of WaitReady: one poll, and the end of the wait in the same step (R106, R107). The timebase is running
(premise P8), so its next tick is what the step consumes. -/
def execStWaitReady (s : State) : Res := andThen (pollOnce s) fun t => .next (endPoll t)

/-- The echo check that follows the read at `seq = 2j` (R92). -/
def checkEcho (seq : BitVec 11) (s : State) : State :=
  if seq = 0#11 then checkHeaderEcho s.respHeader s
  else if seq = 2#11 then checkLengthEcho s.respLength s
  else s

/-- The step rules of ReadResponse: a read into latch `j` at `seq = 2j`, its acknowledge at `2j + 1`, and after the last
acknowledge the result (R91, R110). -/
def execStReadResponse (s : State) : Res :=
  if s.seq = 0#11 ∨ s.seq = 2#11 ∨ s.seq = 4#11 ∨ s.seq = 6#11 then
    andThen (execRdRdata s) fun t => .next (checkEcho s.seq t).advance
  else if s.seq = 1#11 ∨ s.seq = 3#11 ∨ s.seq = 5#11 then subStep (execWrRdata s)
  else if s.seq = 7#11 then andThen (execWrRdata s) fun t => .next (endResponse t)
  else .fault .subStepWithoutRule

/-- The finishing step in Done (R111); with outcome None, which no run meets here, see log entry 24. -/
def execStDone (s : State) : Res := .next (finish s)

/-- The finishing step in Failed (R111); with outcome None, which no run meets here, see log entry 24. -/
def execStFailed (s : State) : Res := .next (finish s)

/-! ### The whole run in big steps (R121) -/

/-- One turn of the loop of R121 from the planning step: budget, `ENCODE`, `POLL`, `DECODE`. It ends in SendChunk (the loop
goes on), Done or Failed. -/
def transaction (s : State) : Res :=
  if (planChunk s).st = .failed then .next (planChunk s)
  else
    andThen (execEncode (planChunk s)) fun s =>
    andThen (execPoll (enterWait s)) fun s =>
    if (endPoll s).st = .readResponse then
      andThen (execDecode (endPoll s)) fun s => .next (endResponse s)
    else .next (endPoll s)

/-- The loop of R121 from the planning step on, and the finishing step where it ends. It has no bound of its own: there is
no answer exactly where the loop never ends, which the empty chunks of R116 make possible. -/
def stageLoop (s : State) : Option Res :=
  match transaction s with
  | .next t => if t.st = .sendChunk then stageLoop t else some (.next (finish t))
  | .fault e => some (.fault e)
  | .refused e => some (.refused e)
partial_fixpoint

/-- What follows an accepted `START` in `STAGE` (R121); a run that never ends answers by a fault of its own name
(log entry 11). -/
def stageRun (s : State) : Res :=
  if (initStep s).st = .failed then .next (finish (initStep s))
  else andThen (execStAborting (initStep s)) fun t => (stageLoop t).getD (.fault .runNeverEnds)

/-- `STAGE base, total` (R121). -/
def execStage (b : Addr) (t : Word) (s : State) : Res := andThen (execStart b t s) stageRun

end Sys2Proof.Machine
end

