-- ==== Sys2Proof/Machine/Place.lean ====
section
/-! DEFINITION. Fetching: the step reads the state code, this block's program counter (spec/10_state.md R13, R14), and
decodes it; and, for each operation, the control state and inputs at which the next step runs it (the place R101 to R111
give it in a run; log entry 10). -/

namespace Sys2Proof.Machine

/-- The byte the step fetches: the state code. -/
def fetchByte (s : State) : Byte := (stCode s.st).setWidth 8

/-- What the fetched byte decodes to. -/
def fetch (s : State) : Decoded := decodeInstr s.cfg .state [fetchByte s]

/-- Put the sequencer at sub-step `q` of state `t`, the window held where the state holds it. -/
def placeAt (t : St) (q : BitVec 11) (m : Bool) (s : State) : State :=
  { s with resetIn := false, st := t, seq := q, mapped := m }

/-- The host is waiting to send this command. -/
def placeStart (b : Addr) (t : Word) (s : State) : State :=
  { placeAt .idle 0#11 false s with hostIn := [⟨b, t, s.image⟩] }

/-- The environment will answer the next `MAP` with `r`. -/
def placeInit (r : MapAnswer) (s : State) : State := { placeAt .init 0#11 false s with mapIn := [r] }

/-- The next poll samples `w`. -/
def placeWait (w : Word) (s : State) : State :=
  { placeAt .waitReady 0#11 true s with pollCount := 0#14, statusIn := [w] }

/-- The request of a chunk of `c` bytes at offset 0 is at sub-step `q`. -/
def placeSend (c : BitVec 13) (q : BitVec 11) (s : State) : State :=
  { placeAt .sendChunk q true s with
    offset := 0#32, chunkSize := c, totalSize := if s.totalSize.toNat < c.toNat then c.setWidth 32 else s.totalSize }

/-- The next step writes `v` to Write-data: as the header, command or reserved word, or as a payload dword whose image
bytes are those of `v`. -/
def placeWrite (v : Word) (s : State) : State :=
  if v = s.cfg.headerConst then placeSend 0#13 1#11 s
  else if v = Config.cmdLoad then placeSend 0#13 3#11 s
  else if v = 0#32 then placeSend 0#13 4#11 s
  else { placeSend 4#13 5#11 s with image := Memory.ofBytes 0 (wordBytes v) }

/-- The response is at sub-step `q` and Read-data will present `v`. -/
def placeRead (q : BitVec 11) (v : Word) (s : State) : State :=
  { placeAt .readResponse q true s with rdataIn := [v] }

/-- The last acknowledge of a response with these two words is next. -/
def placeLastAck (next flags : Word) (s : State) : State :=
  { placeAt .readResponse 7#11 true s with respNext := next, respFlags := flags }

/-- A flags word with only the ERROR flag set, or none. -/
def errorFlagOnly (c : Config) (e : Bool) : Word := if e then 1#32 <<< c.respErrorBit.val else 0#32

/-- `s` placed so that the next step runs `i`. -/
def placeInstr (i : Instr) (s : State) : State :=
  match i with
  | .wrCtrl v => if v = Config.ctrlAbortWord then placeAt .aborting 0#11 true s else placeSend 0#13 5#11 s
  | .rdStatus => placeWait 0#32 s
  | .wrWdata v => placeWrite v s
  | .rdRdata => placeRead 0#11 0#32 s
  | .wrRdata => placeRead 1#11 0#32 s
  | .abort => placeAt .aborting 0#11 true s
  | .go => placeSend 0#13 5#11 s
  | .statusError w => placeWait w s
  | .statusReady w => placeWait w s
  | .statusPending w => placeWait w s
  | .reqHeader => placeSend 0#13 1#11 s
  | .reqDwordLength => placeSend 0#13 2#11 s
  | .reqCommandLoad => placeSend 0#13 3#11 s
  | .reqReserved => placeSend 0#13 4#11 s
  | .reqPayload i => placeSend (BitVec.ofNat 13 (4 * i.toNat + 4)) (BitVec.ofNat 11 (i.toNat + 5)) s
  | .respHeaderEcho v => placeRead 0#11 v s
  | .respLengthEcho v => placeRead 2#11 v s
  | .respNextOffset v => placeLastAck v (errorFlagOnly s.cfg false) s
  | .respNextOffsetSentinel => placeLastAck Config.terminalSentinel (errorFlagOnly s.cfg false) s
  | .flagsRespError w => placeLastAck s.respNext w s
  | .flagsRespOk w => placeLastAck s.respNext w s
  | .start b t => placeStart b t s
  | .done => { placeAt .done 0#11 true s with outcome := .ok }
  | .map => placeInit .ok s
  | .unmap => { placeAt .done 0#11 true s with outcome := .ok }
  | .img _ => placeSend 4#13 5#11 s
  | .tick => placeWait 0#32 s
  | .stIdle => placeStart 0#64 0#32 s
  | .stInit => placeInit .ok s
  | .stAborting => placeAt .aborting 0#11 true s
  | .stSendChunk => placeAt .sendChunk 0#11 true s
  | .stWaitReady => placeWait 0#32 s
  | .stReadResponse => placeRead 0#11 0#32 s
  | .stDone => { placeAt .done 0#11 true s with outcome := .ok }
  | .stFailed => { placeAt .failed 0#11 true s with outcome := .error }
  | .outcomeNone => placeInit .ok s
  | .outcomeOk => placeLastAck Config.terminalSentinel (errorFlagOnly s.cfg false) s
  | .outcomeTimeout => { placeWait 0#32 s with pollCount := 9999#14 }
  | .outcomeError => placeInit .fail s
  | .rdack => placeRead 0#11 0#32 s
  | .encode => placeSend 0#13 1#11 s
  | .poll => placeWait 0#32 s
  | .decode => placeRead 0#11 0#32 s
  | .stage b t => placeStart b t s

end Sys2Proof.Machine
end

