-- ==== Sys2Proof/Machine/Dispatch.lean ====
section
/-! DEFINITION. One arm per operation: each calls its meaning. -/

namespace Sys2Proof.Machine

def exec (i : Instr) (s : State) : Host.Outcome State Fault Refusal :=
  match i with
  | .wrCtrl v => Sys2Proof.Machine.execWrCtrl v s
  | .rdStatus => Sys2Proof.Machine.execRdStatus s
  | .wrWdata v => Sys2Proof.Machine.execWrWdata v s
  | .rdRdata => Sys2Proof.Machine.execRdRdata s
  | .wrRdata => Sys2Proof.Machine.execWrRdata s
  | .abort => Sys2Proof.Machine.execAbort s
  | .go => Sys2Proof.Machine.execGo s
  | .statusError w => Sys2Proof.Machine.execStatusError w s
  | .statusReady w => Sys2Proof.Machine.execStatusReady w s
  | .statusPending w => Sys2Proof.Machine.execStatusPending w s
  | .reqHeader => Sys2Proof.Machine.execReqHeader s
  | .reqDwordLength => Sys2Proof.Machine.execReqDwordLength s
  | .reqCommandLoad => Sys2Proof.Machine.execReqCommandLoad s
  | .reqReserved => Sys2Proof.Machine.execReqReserved s
  | .reqPayload k => Sys2Proof.Machine.execReqPayload k s
  | .respHeaderEcho v => Sys2Proof.Machine.execRespHeaderEcho v s
  | .respLengthEcho v => Sys2Proof.Machine.execRespLengthEcho v s
  | .respNextOffset v => Sys2Proof.Machine.execRespNextOffset v s
  | .respNextOffsetSentinel => Sys2Proof.Machine.execRespNextOffsetSentinel s
  | .flagsRespError w => Sys2Proof.Machine.execFlagsRespError w s
  | .flagsRespOk w => Sys2Proof.Machine.execFlagsRespOk w s
  | .start b t => Sys2Proof.Machine.execStart b t s
  | .done => Sys2Proof.Machine.execDone s
  | .map => Sys2Proof.Machine.execMap s
  | .unmap => Sys2Proof.Machine.execUnmap s
  | .img a => Sys2Proof.Machine.execImg a s
  | .tick => Sys2Proof.Machine.execTick s
  | .stIdle => Sys2Proof.Machine.execStIdle s
  | .stInit => Sys2Proof.Machine.execStInit s
  | .stAborting => Sys2Proof.Machine.execStAborting s
  | .stSendChunk => Sys2Proof.Machine.execStSendChunk s
  | .stWaitReady => Sys2Proof.Machine.execStWaitReady s
  | .stReadResponse => Sys2Proof.Machine.execStReadResponse s
  | .stDone => Sys2Proof.Machine.execStDone s
  | .stFailed => Sys2Proof.Machine.execStFailed s
  | .outcomeNone => Sys2Proof.Machine.execOutcomeNone s
  | .outcomeOk => Sys2Proof.Machine.execOutcomeOk s
  | .outcomeTimeout => Sys2Proof.Machine.execOutcomeTimeout s
  | .outcomeError => Sys2Proof.Machine.execOutcomeError s
  | .rdack => Sys2Proof.Machine.execRdack s
  | .encode => Sys2Proof.Machine.execEncode s
  | .poll => Sys2Proof.Machine.execPoll s
  | .decode => Sys2Proof.Machine.execDecode s
  | .stage b t => Sys2Proof.Machine.execStage b t s

end Sys2Proof.Machine
end

