-- ==== Sys2Proof/Machine/Step.lean ====
section
/-! DEFINITION. One step: reset if it is asserted (spec/70 R160), else the operation the state code decodes to
(spec/10_state.md R13, spec/43 R100). -/

namespace Sys2Proof.Machine

/-- One step of the sequencer. -/
def step (s : State) : Host.Outcome State Fault Refusal :=
  if s.resetIn then .next (hardReset s)
  else
    match fetch s with
    | .ok i => exec i s
    | .reject _ => .refused .undecodable

/-- `s` with the table word `w` of `nbits` bits placed where the next step runs it (log entry 10). -/
def State.withFetchWord (s : State) (nbits w : Nat) : State :=
  match decodeTableWord nbits w with
  | some i => placeInstr i s
  | none => s

end Sys2Proof.Machine
end

