-- ==== Sys2Proof/Safety.lean ====
section
/-! DEFINITION. What claims about the sequencer are stated in: the invariants of its control state and byte budget, the
monitor of the port protocol, the end of a run, the event lists of a request, and the conforming device. None of it is
part of the machine. -/

namespace Sys2Proof.Safety

open Sys2Proof.Machine

/-! ### Invariants -/

/-- What every reachable state satisfies: the operands of an accepted `START` (R161 P5 to P7), the ranges of the counters
(R12, R13, R15), and for each control state whether the window is held (R19), what the outcome is (R16, R111) and which
sub-steps exist (R13). -/
abbrev ControlInv (s : State) : Prop :=
  (s.totalSize.toNat ≤ Config.totalSizeMax ∧ s.totalSize.toNat % 4 = 0
    ∧ s.base.toNat % 4 = 0 ∧ s.base.toNat + 15 < 2 ^ 64)
  ∧ (s.chunkSize.toNat ≤ Config.pageSize ∧ s.pollCount.toNat ≤ Config.pollMax)
  ∧ (s.st ≠ .sendChunk ∧ s.st ≠ .readResponse → s.seq = 0#11)
  ∧ (s.st = .idle ∨ s.st = .init → s.mapped = false)
  ∧ (s.st = .aborting ∨ s.st = .sendChunk ∨ s.st = .waitReady ∨ s.st = .readResponse →
      s.mapped = true ∧ s.outcome = .none)
  ∧ (s.st = .sendChunk → s.seq.toNat ≤ goSubStep s.chunkSize ∧ (2 ≤ s.seq.toNat → chunkIsDwords s.chunkSize = true))
  ∧ (s.st = .waitReady → s.pollCount.toNat < Config.pollMax)
  ∧ (s.st = .readResponse → s.seq.toNat ≤ 7)
  ∧ (s.st = .done → s.mapped = true ∧ s.outcome = .ok)
  ∧ (s.st = .failed → s.outcome = .timeout ∨ s.outcome = .error)

/-- `bytesTransferred` never exceeds `2 × totalSize` (R29 a, R114). The registers of a run are cleared by its Init, so the
bound is asked outside Init; while a chunk is under way it holds with the chunk added. -/
abbrev BudgetInv (s : State) : Prop :=
  s.totalSize.toNat ≤ Config.totalSizeMax
  ∧ (s.st ≠ .init → s.bytesTransferred.toNat ≤ 2 * s.totalSize.toNat)
  ∧ (s.st = .waitReady ∨ (s.st = .sendChunk ∧ s.seq ≠ 0#11) →
      s.bytesTransferred.toNat + s.chunkSize.toNat ≤ 2 * s.totalSize.toNat)

/-- The image buffer is in its canonical form, and during a run it lies inside `totalSize` (R30 b, premise P3). -/
abbrev ImageInv (s : State) : Prop :=
  Memory.wf s.image = true ∧ (s.st ≠ .idle → Memory.below s.totalSize.toNat s.image = true)

/-- The control transitions of R112, with the rest in Idle. -/
def isTransition : St → St → Bool
  | .idle, .idle => true
  | .idle, .init => true
  | .init, .aborting => true
  | .init, .failed => true
  | .aborting, .sendChunk => true
  | .sendChunk, .sendChunk => true
  | .sendChunk, .waitReady => true
  | .sendChunk, .failed => true
  | .waitReady, .waitReady => true
  | .waitReady, .readResponse => true
  | .waitReady, .failed => true
  | .readResponse, .readResponse => true
  | .readResponse, .sendChunk => true
  | .readResponse, .done => true
  | .readResponse, .failed => true
  | .done, .idle => true
  | .failed, .idle => true
  | _, _ => false

/-- The table of R134: the failure that a step from `s` to `t` raises. `t` holds the sample and the count of the poll that
step made. -/
def failureOf (s t : State) : Option FailKind :=
  if s.st = .init ∧ mapAnswer s = .fail then some .error
  else if s.st = .sendChunk ∧ s.seq = 0#11
      ∧ s.bytesTransferred.toNat + (chunkSizeOf s.totalSize s.offset).toNat > 2 * s.totalSize.toNat then some .timeout
  else if s.st = .waitReady ∧ t.lastStatus.getLsbD 2 = true
      ∧ (pollExit s.cfg t.lastStatus = true ∨ t.pollCount.toNat = Config.pollMax) then some .error
  else if s.st = .waitReady ∧ t.lastStatus.getLsbD 2 = false ∧ t.lastStatus.getLsbD 31 = false
      ∧ t.pollCount.toNat = Config.pollMax then some .timeout
  else if s.st = .readResponse ∧ s.seq = 7#11 ∧ s.respFlags.getLsbD s.cfg.respErrorBit.val = true then some .error
  else none

/-! ### The accesses of the closed set (R71) -/

/-- A bus event is one of the five accesses of R71, at the register's address in the window. -/
def legalAccess (b : Addr) : Event → Bool
  | .wr .ctrl a v => a == regAddr b .ctrl && (v == 0x00000001#32 || v == 0x80000000#32)
  | .wr .status _ _ => false
  | .wr .wdata a _ => a == regAddr b .wdata
  | .wr .rdata a v => a == regAddr b .rdata && v == 0#32
  | .rd .ctrl _ _ => false
  | .rd .status a _ => a == regAddr b .status
  | .rd .wdata _ _ => false
  | .rd .rdata a _ => a == regAddr b .rdata
  | .start _ _ | .map _ _ | .img _ _ | .tick | .unmap | .done _ _ _ _ => true

/-! ### The protocol monitor (R119, R163 to R168) -/

/-- What the monitor has seen of a run, and so what it expects next. -/
inductive Mon where
  /-- Nothing: it expects `START`. -/
  | fresh
  /-- It expects `MAP`. -/
  | mapping
  /-- The window is held: it expects `ABORT`. -/
  | aborting
  /-- Between transactions: it expects a request header or `UNMAP`. -/
  | between
  /-- It expects the length word. -/
  | length
  /-- It expects the command word of a request of `n` payload dwords. -/
  | command (n : Nat)
  /-- It expects the reserved word. -/
  | reserved (n : Nat)
  /-- It expects `n` payload dwords and then `GO`. -/
  | payload (n : Nat)
  /-- The dword `v` was fetched and must be written; `n` follow. -/
  | carry (n : Nat) (v : Word)
  /-- `GO` was written: it expects the first `TICK`. -/
  | gone
  /-- It expects Status read number `k`. -/
  | ticked (k : Nat)
  /-- Status read number `k` returned `w`. -/
  | sampled (k : Nat) (w : Word)
  /-- Response dword `j` was read and must be acknowledged. -/
  | unacked (j : Nat)
  /-- It expects the read of response dword `j`. -/
  | acked (j : Nat)
  /-- No window is held any more: it expects `DONE`. -/
  | closing
  /-- The run has ended. -/
  | ended
  deriving DecidableEq, Repr

/-- The wait is over once read number `k` has returned `w` (R106, R108). -/
def waitOver (c : Config) (k : Nat) (w : Word) : Bool := pollExit c w || decide (k = Config.pollMax)

/-- One event of the run of a sequencer with parameters `c` and window `b`: where the monitor goes, or none if the protocol
forbids the event. -/
def monStep (c : Config) (b : Addr) (m : Mon) (e : Event) : Option Mon :=
  match m, e with
  | .fresh, .start b' _ => if b' = b then some .mapping else none
  | .mapping, .map b' .ok => if b' = b then some .aborting else none
  | .mapping, .map b' .fail => if b' = b then some .closing else none
  | .aborting, .wr .ctrl a v => if a = regAddr b .ctrl ∧ v = 0x00000001#32 then some .between else none
  | .between, .wr .wdata a v => if a = regAddr b .wdata ∧ v = c.headerConst then some .length else none
  | .between, .unmap => some .closing
  | .length, .wr .wdata a v =>
    if a = regAddr b .wdata ∧ 4 ≤ v.toNat ∧ v.toNat ≤ 1028 then some (.command (v.toNat - 4)) else none
  | .command n, .wr .wdata a v => if a = regAddr b .wdata ∧ v = 0x00000003#32 then some (.reserved n) else none
  | .reserved n, .wr .wdata a v => if a = regAddr b .wdata ∧ v = 0x00000000#32 then some (.payload n) else none
  | .payload (n + 1), .img _ v => some (.carry n v)
  | .carry n u, .wr .wdata a v => if a = regAddr b .wdata ∧ v = u then some (.payload n) else none
  | .payload 0, .wr .ctrl a v => if a = regAddr b .ctrl ∧ v = 0x80000000#32 then some .gone else none
  | .gone, .tick => some (.ticked 1)
  | .ticked k, .rd .status a w => if a = regAddr b .status then some (.sampled k w) else none
  | .sampled k w, .tick => if waitOver c k w then none else some (.ticked (k + 1))
  | .sampled k w, .rd .rdata a _ =>
    if waitOver c k w ∧ classify w = .ready ∧ a = regAddr b .rdata then some (.unacked 0) else none
  | .sampled k w, .unmap => if waitOver c k w ∧ classify w ≠ .ready then some .closing else none
  | .unacked j, .wr .rdata a v =>
    if a = regAddr b .rdata ∧ v = 0#32 then (if j = 3 then some .between else some (.acked (j + 1))) else none
  | .acked j, .rd .rdata a _ => if a = regAddr b .rdata then some (.unacked j) else none
  | .closing, .done res diag _ _ =>
    if res = decide (diag = .ok) ∧ diag ≠ .none then some .ended else none
  | _, _ => none

/-- The monitor over a list of events. -/
def monRun (c : Config) (b : Addr) : Mon → List Event → Option Mon
  | m, [] => some m
  | m, e :: es =>
    match monStep c b m e with
    | some m' => monRun c b m' es
    | none => none

/-- The monitor's state is the one the control state stands for. -/
def follows (s : State) (m : Mon) : Bool :=
  match s.st with
  | .idle => m == .fresh || m == .ended
  | .init => m == .mapping
  | .aborting => m == .aborting
  | .sendChunk =>
    if s.seq.toNat ≤ 1 then m == .between
    else if s.seq.toNat = 2 then m == .length
    else if s.seq.toNat = 3 then m == .command (payloadCount s.chunkSize)
    else if s.seq.toNat = 4 then m == .reserved (payloadCount s.chunkSize)
    else m == .payload (payloadCount s.chunkSize - (s.seq.toNat - 5))
  | .waitReady =>
    if s.pollCount.toNat = 0 then m == .gone
    else m == .sampled s.pollCount.toNat s.lastStatus && !waitOver s.cfg s.pollCount.toNat s.lastStatus
  | .readResponse =>
    if s.seq.toNat = 0 then
      m == .sampled s.pollCount.toNat s.lastStatus && decide (classify s.lastStatus = .ready)
    else if s.seq.toNat % 2 = 1 then m == .unacked (s.seq.toNat / 2)
    else m == .acked (s.seq.toNat / 2)
  | .done => m == .between
  | .failed =>
    if s.mapped then
      m == .between || (m == .sampled s.pollCount.toNat s.lastStatus
        && waitOver s.cfg s.pollCount.toNat s.lastStatus && decide (classify s.lastStatus ≠ .ready))
    else m == .closing

/-- The trace of the current run is one the protocol allows, and it has brought the monitor to where the sequencer is. -/
def ProtocolInv (s : State) : Prop :=
  ∃ m, monRun s.cfg s.base .fresh s.trace = some m ∧ follows s m = true

/-- The premises of R161 that the sequencer can see. -/
abbrev StartPremises (b : Addr) (t : Word) (s : State) : Prop :=
  s.st = .idle ∧ t.toNat ≤ Config.totalSizeMax ∧ t.toNat % 4 = 0 ∧ b.toNat % 4 = 0 ∧ b.toNat + 15 < 2 ^ 64
  ∧ Memory.wf s.image = true ∧ Memory.below t.toNat s.image = true

/-! ### The events of a request (R80, R87) -/

/-- The fetch and the write of payload dword `i` (R85). -/
def payloadEvents (s : State) (i : Nat) : List Event :=
  [.img (payloadAddr s.offset i) (Memory.readDword s.image (payloadAddr s.offset i).toNat),
    .wr .wdata (regAddr s.base .wdata) (Memory.readDword s.image (payloadAddr s.offset i).toNat)]

/-- The events of `ENCODE x[offset], x[chunkSize]` (R80). -/
def requestEvents (s : State) : List Event :=
  [.wr .wdata (regAddr s.base .wdata) s.cfg.headerConst,
    .wr .wdata (regAddr s.base .wdata) (BitVec.ofNat 32 (s.chunkSize.toNat / 4 + 4)),
    .wr .wdata (regAddr s.base .wdata) 0x00000003#32,
    .wr .wdata (regAddr s.base .wdata) 0x00000000#32]
  ++ (List.range (s.chunkSize.toNat / 4)).flatMap (payloadEvents s)
  ++ [.wr .ctrl (regAddr s.base .ctrl) 0x80000000#32]

/-- Every payload dword of the chunk is inside the image (R34). -/
abbrev RequestInImage (s : State) : Prop :=
  ∀ i < s.chunkSize.toNat / 4, (payloadAddr s.offset i).toNat + 3 < s.totalSize.toNat

/-! ### The conforming device (R26, D24) -/

/-- The answers of one wait of a conforming device: fewer than `POLL_MAX` words with READY and ERROR clear, then one with
READY set and ERROR clear (R26 a). -/
structure ConformingWait (pending : List Word) (ready : Word) : Prop where
  short : pending.length < Config.pollMax
  idle : ∀ w ∈ pending, classify w = .timeout
  ends : classify ready = .ready

/-- The Status and Read-data answers of a conforming device from offset `o` of an image of `T` bytes on (R26): each
response echoes the constants, gives the next offset, or the sentinel after the last chunk, and has ERROR clear. -/
inductive Conforming (c : Config) (T : Nat) : Nat → List Word → List Word → Prop where
  | last (o : Nat) (pending : List Word) (ready flags : Word) (ss rs : List Word) :
      o < T → T ≤ o + Config.pageSize → ConformingWait pending ready → respErrorSet c flags = false →
      Conforming c T o (pending ++ ready :: ss)
        (c.headerConst :: c.respLenExpected :: Config.terminalSentinel :: flags :: rs)
  | more (o : Nat) (pending : List Word) (ready flags : Word) (ss rs : List Word) :
      o + Config.pageSize < T → ConformingWait pending ready → respErrorSet c flags = false →
      Conforming c T (o + Config.pageSize) ss rs →
      Conforming c T o (pending ++ ready :: ss)
        (c.headerConst :: c.respLenExpected :: BitVec.ofNat 32 (o + Config.pageSize) :: flags :: rs)

/-- The addresses of the image fetches of a trace, in order. -/
def fetchAddrs (es : List Event) : List Word :=
  es.filterMap fun e => match e with
    | .img a _ => some a
    | _ => none

/-- The payload dwords of a trace, in order, with their addresses: each fetch whose very next event writes the fetched value
to Write-data (R85). -/
def sentDwords : List Event → List (Word × Word)
  | .img a v :: .wr .wdata _ u :: es => if u = v then (a, v) :: sentDwords es else sentDwords es
  | _ :: es => sentDwords es
  | [] => []

/-- The writes to Write-data of a trace. -/
def wdataCount (es : List Event) : Nat :=
  (es.filter fun e => match e with
    | .wr .wdata _ _ => true
    | _ => false).length

/-- The `GO`s of a trace: one for each transaction (R119 i). -/
def goCount (es : List Event) : Nat :=
  (es.filter fun e => match e with
    | .wr .ctrl _ v => v == 0x80000000#32
    | _ => false).length

end Sys2Proof.Safety
end

