-- ==== Sys2Proof/Certificates/Slice0/Obligations.lean ====
section
/-! DEFINITION. The statements for the provers, from the numbered rules of spec/. A result is stated as the whole next
state, so that it is also the frame: every register, the image and every input that the equation does not name is
unchanged. -/

open Sys2Proof Sys2Proof.Machine Sys2Proof.Safety

/-! ### Encoding (spec/30_encoding.md) -/

/-- Decoding the bytes of a well-formed operation, in the place it stands in, gives it back (R50 to R62). -/
def Obligations.DecodeEncodeRoundTrip : Prop :=
  ∀ (c : Config) (i : Instr), i.wf c = true → decodeInstr c (slotOf i) (encodeInstr c i) = .ok i

/-- Words written out from the spec's encodings decode to what they stand for (R14, R16, R51 to R56, R61). The header word
and the place of the ERROR flag are the reference instance's (PRESUMED, log entry 3), and the order of the bytes of a word
is the model's (DESIGN CHOICE, log entry 8). -/
def Obligations.SpecWordsDecode : Prop :=
  decodeInstr .reference .mmioRead [0x04#8] = .ok .rdStatus
  ∧ decodeInstr .reference .mmioWrite [0x0C#8, 0x00#8, 0x00#8, 0x00#8, 0x00#8] = .ok .wrRdata
  ∧ decodeInstr .reference .control [0x01#8, 0x00#8, 0x00#8, 0x00#8] = .ok .abort
  ∧ decodeInstr .reference .control [0x00#8, 0x00#8, 0x00#8, 0x80#8] = .ok .go
  ∧ decodeInstr .reference .status [0x04#8, 0x00#8, 0x00#8, 0x80#8] = .ok (.statusError 0x80000004#32)
  ∧ decodeInstr .reference (.request 0) [0x86#8, 0x80#8, 0x0B#8, 0x00#8] = .ok .reqHeader
  ∧ decodeInstr .reference (.request 2) [0x03#8, 0x00#8, 0x00#8, 0x00#8] = .ok .reqCommandLoad
  ∧ decodeInstr .reference (.response 2) [0xFF#8, 0xFF#8, 0xFF#8, 0xFF#8] = .ok .respNextOffsetSentinel
  ∧ decodeInstr .reference (.response 3) [0x04#8, 0x00#8, 0x00#8, 0x00#8] = .ok (.flagsRespError 4#32)
  ∧ decodeInstr .reference .state [0x05#8] = .ok .stReadResponse
  ∧ decodeInstr .reference .hostDiag [0x02#8] = .ok .outcomeTimeout

/-- Every Status word decodes to exactly one class, ERROR before READY (R53, R109). -/
def Obligations.StatusWordDecodesByPriority : Prop :=
  ∀ (c : Config) (w : Word), decodeInstr c .status (wordBytes w) =
    if w.getLsbD 2 = true then .ok (.statusError w)
    else if w.getLsbD 31 = true then .ok (.statusReady w)
    else .ok (.statusPending w)

/-- Bytes on the bus decode to one of the five accesses or to none (R51, R71). -/
def Obligations.OnlyFiveBusAccessesDecode : Prop :=
  ∀ (c : Config) (bytes : List Byte) (i : Instr),
    (decodeInstr c .mmioRead bytes = .ok i → i = .rdStatus ∨ i = .rdRdata)
    ∧ (decodeInstr c .mmioWrite bytes = .ok i →
        i = .wrCtrl 0x00000001#32 ∨ i = .wrCtrl 0x80000000#32 ∨ i = .wrRdata ∨ ∃ v, i = .wrWdata v)

/-! ### The step and reset (spec/10_state.md R13, R28; spec/70 R160) -/

/-- The state code decodes, and the step is the meaning of what it decodes to; nothing is added around it while reset is
not asserted. -/
def Obligations.StepRunsDecodedOperation : Prop :=
  ∀ s : State, s.resetIn = false →
    (∃ i, decodeInstr s.cfg .state [(stCode s.st).setWidth 8] = .ok i)
    ∧ ∀ i, decodeInstr s.cfg .state [(stCode s.st).setWidth 8] = .ok i → i.wf s.cfg = true ∧ step s = exec i s

/-- The values R28 gives for reset. The other registers are unspecified there and nothing is said of them. -/
def Obligations.ResetValues : Prop :=
  State.reset.st = .idle ∧ State.reset.seq = 0#11 ∧ State.reset.mapped = false ∧ State.reset.outcome = .none
  ∧ State.reset.warnHdr = false ∧ State.reset.warnLen = false

/-- Reset asserted in any state abandons the run: the reset values hold, no event is recorded for it, and what belongs to
the environment stays (R160). That the trace of the next run starts empty is the model's (log entry 6). -/
def Obligations.AssertedResetAbandonsRun : Prop :=
  ∀ s : State, s.resetIn = true →
    ∃ t, step s = .next t ∧ t.st = .idle ∧ t.seq = 0#11 ∧ t.mapped = false ∧ t.outcome = .none
      ∧ t.warnHdr = false ∧ t.warnLen = false ∧ t.trace = [] ∧ t.resetIn = false
      ∧ t.cfg = s.cfg ∧ t.image = s.image ∧ t.hostIn = s.hostIn ∧ t.mapIn = s.mapIn
      ∧ t.statusIn = s.statusIn ∧ t.rdataIn = s.rdataIn ∧ t.draws = s.draws

/-- In Idle with no command waiting nothing is enabled: the sequencer makes no access on its own (R101, R146). -/
def Obligations.IdleRestsWithoutCommand : Prop :=
  ∀ s : State, s.hostIn = [] →
    exec .stIdle s = .next s ∧ (s.st = .idle → s.resetIn = false → step s = .next s)

/-! ### The Register Port and the event ports (spec/40, spec/20) -/

/-- A register write is one 32-bit write of the value at `base + OFF_reg` and nothing else (R70): `WR CTRL`, `WR WDATA` and
`WR RDATA, 0`. That the event records the address beside the register is the model's (DESIGN CHOICE, log entry 15). -/
def Obligations.RegisterWritesAreOneAccess : Prop :=
  ∀ (s : State) (v : Word), s.mapped = true →
    exec (.wrCtrl v) s = .next { s with trace := s.trace ++ [.wr .ctrl (s.base + 0x0#64) v] }
    ∧ exec (.wrWdata v) s = .next { s with trace := s.trace ++ [.wr .wdata (s.base + 0x8#64) v] }
    ∧ exec .wrRdata s = .next { s with trace := s.trace ++ [.wr .rdata (s.base + 0xC#64) 0#32] }

/-- `ABORT` and `GO` write the Control word with their own bit alone (R52, R74, R86). -/
def Obligations.AbortAndGoWriteControlWords : Prop :=
  ∀ s : State, s.mapped = true →
    exec .abort s = .next { s with trace := s.trace ++ [.wr .ctrl (s.base + 0x0#64) 0x00000001#32] }
    ∧ exec .go s = .next { s with trace := s.trace ++ [.wr .ctrl (s.base + 0x0#64) 0x80000000#32] }

/-- `RD STATUS -> w`: any value the device presents is accepted and kept as the last sample (R72, R15); where no answer is
queued the value is free (R25). -/
def Obligations.StatusReadKeepsSample : Prop :=
  ∀ s : State, s.mapped = true →
    (∀ w ws, s.statusIn = w :: ws →
      exec .rdStatus s = .next { s with
        statusIn := ws, lastStatus := w, trace := s.trace ++ [.rd .status (s.base + 0x4#64) w] })
    ∧ (s.statusIn = [] →
      exec .rdStatus s = .next { s with
        draws := s.draws + 1, lastStatus := Config.freeStatus s.draws
        trace := s.trace ++ [.rd .status (s.base + 0x4#64) (Config.freeStatus s.draws)] })

/-- `RD RDATA -> v`: the value is stored in latch `j` at `seq = 2j` and in none at another `seq` (R72, R91). -/
def Obligations.ReadDataFillsLatch : Prop :=
  ∀ s : State, s.mapped = true →
    exec .rdRdata s = .next { s with
      rdataIn := s.rdataIn.tail
      draws := if s.rdataIn = [] then s.draws + 1 else s.draws
      respHeader := if s.seq = 0#11 then rdataAnswer s else s.respHeader
      respLength := if s.seq = 2#11 then rdataAnswer s else s.respLength
      respNext := if s.seq = 4#11 then rdataAnswer s else s.respNext
      respFlags := if s.seq = 6#11 then rdataAnswer s else s.respFlags
      trace := s.trace ++ [.rd .rdata (s.base + 0xC#64) (rdataAnswer s)] }

/-- `RDACK -> v`: the read and, as the very next event, the write of 0, whatever was read (R73). -/
def Obligations.ReadAcknowledgeIsAdjacent : Prop :=
  ∀ s : State, s.mapped = true →
    exec .rdack s = .next { s with
      rdataIn := s.rdataIn.tail
      draws := if s.rdataIn = [] then s.draws + 1 else s.draws
      respHeader := if s.seq = 0#11 then rdataAnswer s else s.respHeader
      respLength := if s.seq = 2#11 then rdataAnswer s else s.respLength
      respNext := if s.seq = 4#11 then rdataAnswer s else s.respNext
      respFlags := if s.seq = 6#11 then rdataAnswer s else s.respFlags
      trace := s.trace ++ [.rd .rdata (s.base + 0xC#64) (rdataAnswer s), .wr .rdata (s.base + 0xC#64) 0x00000000#32] }

/-- While `mapped = 0` no access of the window is made: each stops (R19, R70, R72). -/
def Obligations.NoAccessWithoutWindow : Prop :=
  ∀ (s : State) (v : Word), s.mapped = false →
    ∀ i ∈ [Instr.wrCtrl v, .rdStatus, .wrWdata v, .rdRdata, .wrRdata, .abort, .go, .reqHeader, .reqDwordLength,
      .reqCommandLoad, .reqReserved, .rdack, .decode, .poll, .stAborting, .stWaitReady],
      exec i s = .fault .windowNotMapped

/-- `IMG(a) -> v` assembles four bytes little-endian where all four are inside the image, and is the model fault
ImageOutOfBounds otherwise (R34, U1). -/
def Obligations.ImageFetchIsLittleEndian : Prop :=
  ∀ (s : State) (a : Word),
    (a.toNat + 3 < s.totalSize.toNat →
      ∃ v : Word, exec (.img a) s = .next { s with trace := s.trace ++ [.img a v] }
        ∧ v.extractLsb' 0 8 = Memory.read s.image a.toNat
        ∧ v.extractLsb' 8 8 = Memory.read s.image (a.toNat + 1)
        ∧ v.extractLsb' 16 8 = Memory.read s.image (a.toNat + 2)
        ∧ v.extractLsb' 24 8 = Memory.read s.image (a.toNat + 3))
    ∧ (s.totalSize.toNat ≤ a.toNat + 3 → exec (.img a) s = .fault .imageOutOfBounds)

/-- `MAP(base) -> r`: `ok` takes the window, `fail` does not (R37); the answer is the environment's. -/
def Obligations.MapTakesWindowOnOk : Prop :=
  ∀ s : State,
    exec .map s = .next { s with
      mapIn := s.mapIn.tail
      draws := if s.mapIn = [] then s.draws + 1 else s.draws
      mapped := if mapAnswer s = .ok then true else s.mapped
      trace := s.trace ++ [.map s.base (mapAnswer s)] }

/-- `UNMAP` releases the window (R37); `TICK` is consumed only in WaitReady, where it advances the poll count (R135, R142).
That `UNMAP` as an operation does nothing where no window is held is the model's (DESIGN CHOICE, log entry 18): R37 says
only that it is not issued then. -/
def Obligations.UnmapAndTick : Prop :=
  ∀ s : State,
    (s.mapped = true → exec .unmap s = .next { s with mapped := false, trace := s.trace ++ [.unmap] })
    ∧ (s.mapped = false → exec .unmap s = .next s)
    ∧ (s.st = .waitReady → exec .tick s = .next { s with pollCount := s.pollCount + 1#14, trace := s.trace ++ [.tick] })
    ∧ (s.st ≠ .waitReady → exec .tick s = .next s)

/-- `base + OFF_reg` does not wrap and is aligned under premise P7 (R32). -/
def Obligations.EffectiveAddressesAligned : Prop :=
  ∀ b : Addr, b.toNat % 4 = 0 → b.toNat + 15 < 2 ^ 64 →
    (regAddr b .ctrl).toNat = b.toNat ∧ (regAddr b .status).toNat = b.toNat + 4
    ∧ (regAddr b .wdata).toNat = b.toNat + 8 ∧ (regAddr b .rdata).toNat = b.toNat + 12
    ∧ ∀ r, (regAddr b r).toNat % 4 = 0

/-! ### The Request Encoder (spec/41) -/

/-- The four header dwords are each one write to Write-data: HEADER_CONST, `chunkSize / 4 + 4`, 3 and 0 (R81 to R84).
HEADER_CONST has VENDOR_ID in bits 15:0 and OBJECT_TYPE in bits 31:16, for every value of the two (R5, R58). For a chunk
size that is no multiple of 4 the floor in the length word is the model's (DESIGN CHOICE, log entry 23). -/
def Obligations.RequestHeaderWords : Prop :=
  ∀ s : State, s.mapped = true →
    s.cfg.headerConst.extractLsb' 0 16 = s.cfg.vendorId ∧ s.cfg.headerConst.extractLsb' 16 16 = s.cfg.objectType
    ∧ exec .reqHeader s = .next { s with trace := s.trace ++ [.wr .wdata (s.base + 0x8#64) s.cfg.headerConst] }
    ∧ exec .reqDwordLength s = .next { s with
        trace := s.trace ++ [.wr .wdata (s.base + 0x8#64) (BitVec.ofNat 32 (s.chunkSize.toNat / 4 + 4))] }
    ∧ exec .reqCommandLoad s = .next { s with trace := s.trace ++ [.wr .wdata (s.base + 0x8#64) 0x00000003#32] }
    ∧ exec .reqReserved s = .next { s with trace := s.trace ++ [.wr .wdata (s.base + 0x8#64) 0x00000000#32] }

/-- Payload dword `i`: the fetch at `offset +32 4·i`, then at once the write of the fetched value; outside the image it is
the model fault (R85). That an index at or beyond the end of the chunk is fetched and written too is the model's (DESIGN
CHOICE, log entry 22). -/
def Obligations.PayloadDwordIsFetchedThenWritten : Prop :=
  ∀ (s : State) (i : BitVec 10) (a : Word), a = s.offset + BitVec.ofNat 32 (4 * i.toNat) →
    (s.mapped = true → a.toNat + 3 < s.totalSize.toNat →
      exec (.reqPayload i) s = .next { s with
        trace := s.trace ++ [.img a (Memory.readDword s.image a.toNat),
          .wr .wdata (s.base + 0x8#64) (Memory.readDword s.image a.toNat)] })
    ∧ (s.totalSize.toNat ≤ a.toNat + 3 → exec (.reqPayload i) s = .fault .imageOutOfBounds)

/-- `ENCODE` issues exactly the events of R80 in that order, and changes nothing else (R80, R87). -/
def Obligations.EncodeIssuesWholeRequest : Prop :=
  ∀ s : State, s.mapped = true → s.chunkSize.toNat % 4 = 0 → RequestInImage s →
    exec .encode s = .next { s with trace := s.trace ++ requestEvents s }

/-- `ENCODE` of a chunk that is no multiple of 4 faults before any write (R88); of one not inside the image it faults at
the first fetch outside (R34, R85). -/
def Obligations.EncodeModelFaults : Prop :=
  ∀ s : State,
    (s.chunkSize.toNat % 4 ≠ 0 → exec .encode s = .fault .chunkNotDwordMultiple)
    ∧ (s.mapped = true → s.chunkSize.toNat % 4 = 0 → ¬ RequestInImage s →
        exec .encode s = .fault .imageOutOfBounds)

/-! ### The wait (spec/43 R106 to R109) -/

/-- What a Status sample of each class does: Ready counts the chunk and goes to ReadResponse; Error raises Error and Pending
raises Timeout where the sample ends the wait; otherwise polling goes on (R107). A sample ends the wait where READY is set,
where ERROR is set and POLL_EXIT_ON_ERROR holds (R108), or where it is the `POLL_MAX`-th. That the
row writes neither `lastStatus` nor `pollCount` is the model's (DESIGN CHOICE, log entry 25). -/
def Obligations.SampleClassesDecideWait : Prop :=
  ∀ (s : State) (w : Word) (exits : Prop),
    (exits ↔ w.getLsbD 31 = true ∨ (s.cfg.pollExitOnError = true ∧ w.getLsbD 2 = true)) →
    exec (.statusReady w) s = .next { s with
      bytesTransferred := s.bytesTransferred + s.chunkSize.setWidth 32, st := .readResponse, seq := 0#11 }
    ∧ (exits ∨ s.pollCount.toNat = 10000 →
        exec (.statusError w) s = .next { s with outcome := .error, st := .failed, seq := 0#11 }
        ∧ exec (.statusPending w) s = .next { s with outcome := .timeout, st := .failed, seq := 0#11 })
    ∧ (¬ exits → s.pollCount.toNat ≠ 10000 →
        exec (.statusError w) s = .next s ∧ exec (.statusPending w) s = .next s)

/-- `POLL` makes `k` polls, `1 ≤ k ≤ POLL_MAX`, each a TICK and a Status read; it stops at the first sample that exits or
at the `POLL_MAX`-th, and that sample is the one kept (R64, R106). The exit predicate is written out from R108. -/
def Obligations.PollStopsAtFirstExit : Prop :=
  ∀ (s : State) (exits : Word → Prop), s.mapped = true →
    (∀ u, exits u ↔ u.getLsbD 31 = true ∨ (s.cfg.pollExitOnError = true ∧ u.getLsbD 2 = true)) →
    ∃ (ws : List Word) (w : Word),
      1 ≤ (ws ++ [w]).length ∧ (ws ++ [w]).length ≤ 10000
      ∧ (∀ u ∈ ws, ¬ exits u)
      ∧ (exits w ∨ (ws ++ [w]).length = 10000)
      ∧ (ws ++ [w]).take s.statusIn.length = s.statusIn.take (ws ++ [w]).length
      ∧ exec .poll s = .next { s with
          pollCount := BitVec.ofNat 14 (ws ++ [w]).length
          lastStatus := w
          statusIn := s.statusIn.drop (ws ++ [w]).length
          draws := s.draws + ((ws ++ [w]).length - s.statusIn.length)
          trace := s.trace ++ (ws ++ [w]).flatMap fun u => [.tick, .rd .status (s.base + 0x4#64) u] }

/-- Two Status words that agree on bits 31 and 2 are treated alike (R57 c, R109, D27). -/
def Obligations.UndefinedStatusBitsIgnored : Prop :=
  ∀ (s t : State) (w w' : Word) (ws : List Word),
    w.getLsbD 31 = w'.getLsbD 31 → w.getLsbD 2 = w'.getLsbD 2 →
    exec .stWaitReady { s with statusIn := w :: ws } = .next t →
    exec .stWaitReady { s with statusIn := w' :: ws } = .next { t with
      lastStatus := w', trace := s.trace ++ [.tick, .rd .status (s.base + 0x4#64) w'] }

/-! ### The Response Decoder (spec/42) -/

/-- The echo checks compare all 32 bits, set a sticky warning and change nothing else (R92). -/
def Obligations.EchoMismatchOnlyWarns : Prop :=
  ∀ (s : State) (v : Word),
    exec (.respHeaderEcho v) s = .next { s with
      respHeader := v, warnHdr := if v = s.cfg.headerConst then s.warnHdr else true }
    ∧ exec (.respLengthEcho v) s = .next { s with
      respLength := v, warnLen := if v = s.cfg.respLenExpected then s.warnLen else true }

/-- A next offset is assigned as read, with no check of any kind; the sentinel ends the loop with Ok (R110, R117). -/
def Obligations.NextOffsetTakenAsRead : Prop :=
  ∀ (s : State) (v : Word),
    exec (.respNextOffset v) s = .next { s with respNext := v, offset := v, st := .sendChunk, seq := 0#11 }
    ∧ exec .respNextOffsetSentinel s = .next { s with
        respNext := 0xFFFFFFFF#32, offset := 0xFFFFFFFF#32, outcome := .ok, st := .done, seq := 0#11 }

/-- The result of a response: Error where the ERROR flag is set, with `offset` unchanged, else `Ok(respNext)`
(R93, R110). -/
def Obligations.FlagsDecideResult : Prop :=
  ∀ (s : State) (w : Word),
    exec (.flagsRespError w) s = .next { s with respFlags := w, outcome := .error, st := .failed, seq := 0#11 }
    ∧ (s.respNext ≠ 0xFFFFFFFF#32 →
        exec (.flagsRespOk w) s = .next { s with respFlags := w, offset := s.respNext, st := .sendChunk, seq := 0#11 })
    ∧ (s.respNext = 0xFFFFFFFF#32 →
        exec (.flagsRespOk w) s = .next { s with
          respFlags := w, offset := 0xFFFFFFFF#32, outcome := .ok, st := .done, seq := 0#11 })

/-- `DECODE` makes exactly eight accesses, alternating, whatever is read, latches the four words in order and sets the
sticky warnings (R90). -/
def Obligations.DecodeReadsFourWords : Prop :=
  ∀ (s s1 s2 s3 s4 : State) (h l n f : Word), s.mapped = true →
    h = rdataAnswer s → s1 = afterRdataAnswer s → l = rdataAnswer s1 → s2 = afterRdataAnswer s1 →
    n = rdataAnswer s2 → s3 = afterRdataAnswer s2 → f = rdataAnswer s3 → s4 = afterRdataAnswer s3 →
    exec .decode s = .next { s with
      rdataIn := s4.rdataIn, draws := s4.draws
      respHeader := h, respLength := l, respNext := n, respFlags := f
      warnHdr := s.warnHdr || h != s.cfg.headerConst
      warnLen := s.warnLen || l != s.cfg.respLenExpected
      trace := s.trace ++ [h, l, n, f].flatMap fun v =>
        [.rd .rdata (s.base + 0xC#64) v, .wr .rdata (s.base + 0xC#64) 0x00000000#32] }

/-! ### The host interface and failures (spec/43 R101, R111; spec/60; spec/70 R161) -/

/-- `START` latches its operands, records its event and goes to Init, making no access; in a state other than Idle, or with
operands outside the premises, it is refused (R101, R161). That its event begins a new trace is the model's (log
entry 6). -/
def Obligations.StartLatchesOperands : Prop :=
  ∀ (s : State) (b : Addr) (t : Word),
    (StartPremises b t s →
      exec (.start b t) s = .next { s with
        base := b, totalSize := t, trace := [.start b t], st := .init, seq := 0#11 })
    ∧ (¬ StartPremises b t s → ∃ r, exec (.start b t) s = .refused r)

/-- Idle takes the waiting command and its image, by the same rule, and refuses a command that breaks a premise the
sequencer can see (R101, R147, R161, U5, U13, U14). That commands wait in a queue with their images is the model's (log
entries 7 and 21). -/
def Obligations.IdleTakesCommand : Prop :=
  ∀ (s : State) (c : HostCommand) (cs : List HostCommand), s.hostIn = c :: cs →
    (StartPremises c.base c.totalSize { s with image := c.image } →
      exec .stIdle s = .next { s with
        hostIn := cs, image := c.image, base := c.base, totalSize := c.totalSize
        trace := [.start c.base c.totalSize], st := .init, seq := 0#11 })
    ∧ (¬ StartPremises c.base c.totalSize { s with image := c.image } → ∃ r, exec .stIdle s = .refused r)

/-- `DONE` reports the outcome and the warnings, with `res = 1` exactly when the outcome is Ok (R61, R111). What it
reports with outcome None is the model's (DESIGN CHOICE, log entry 24). -/
def Obligations.DoneReportsOutcome : Prop :=
  ∀ s : State, ∃ res : Bool, (res = true ↔ s.outcome = .ok)
    ∧ exec .done s = .next { s with trace := s.trace ++ [.done res s.outcome s.warnHdr s.warnLen] }

/-- `raise Fail(kind)` writes the outcome and goes to Failed; nothing else is saved and no event is recorded (R137). -/
def Obligations.FailureEntry : Prop :=
  ∀ s : State,
    exec .outcomeTimeout s = .next { s with outcome := .timeout, st := .failed, seq := 0#11 }
    ∧ exec .outcomeError s = .next { s with outcome := .error, st := .failed, seq := 0#11 }

/-- The outcome codes that are no failure: None is what Init writes, Ok goes with the move to Done (R16, R110). -/
def Obligations.OutcomeNoneAndOk : Prop :=
  ∀ s : State,
    exec .outcomeNone s = .next { s with outcome := .none }
    ∧ exec .outcomeOk s = .next { s with outcome := .ok, st := .done, seq := 0#11 }

/-! ### The state rules (spec/43) -/

/-- Init clears the run's registers, issues `MAP`, and goes to Aborting with the window, or fails with Error (R102). -/
def Obligations.InitMapsOrFails : Prop :=
  ∀ s : State,
    (mapAnswer s = .ok →
      exec .stInit s = .next { s with
        offset := 0#32, bytesTransferred := 0#32, outcome := .none, warnHdr := false, warnLen := false
        mapIn := s.mapIn.tail, draws := if s.mapIn = [] then s.draws + 1 else s.draws
        trace := s.trace ++ [.map s.base .ok], mapped := true, st := .aborting, seq := 0#11 })
    ∧ (mapAnswer s = .fail →
      exec .stInit s = .next { s with
        offset := 0#32, bytesTransferred := 0#32, outcome := .error, warnHdr := false, warnLen := false
        mapIn := s.mapIn.tail, draws := if s.mapIn = [] then s.draws + 1 else s.draws
        trace := s.trace ++ [.map s.base .fail], st := .failed, seq := 0#11 })

/-- Aborting issues the one `ABORT` and goes to SendChunk, with no wait and no Status read (R103). -/
def Obligations.AbortingIssuesAbort : Prop :=
  ∀ s : State, s.mapped = true →
    exec .stAborting s = .next { s with
      trace := s.trace ++ [.wr .ctrl (s.base + 0x0#64) 0x00000001#32], st := .sendChunk, seq := 0#11 }

/-- The planning step computes the chunk and checks the budget over the naturals, before any event of the chunk; an
exceeded budget is Timeout (R104, R114). -/
def Obligations.PlanningChecksBudget : Prop :=
  ∀ s : State, s.seq = 0#11 →
    ∃ c : BitVec 13, c.toNat = min 4096 (s.totalSize - s.offset).toNat
      ∧ exec .stSendChunk s = .next (
          if s.bytesTransferred.toNat + c.toNat > 2 * s.totalSize.toNat then
            { s with chunkSize := c, outcome := .timeout, st := .failed, seq := 0#11 }
          else { s with chunkSize := c, seq := 1#11 })

/-- `chunkSize = min(4096, (totalSize − offset) mod 2^32)`: the two cases of R113 over the naturals. -/
def Obligations.ChunkSizeArithmetic : Prop :=
  ∀ t o : Word,
    (o.toNat ≤ t.toNat → (chunkSizeOf t o).toNat = min 4096 (t.toNat - o.toNat))
    ∧ (t.toNat < o.toNat → (chunkSizeOf t o).toNat = min 4096 (2 ^ 32 - (o.toNat - t.toNat)))

/-- With `offset = totalSize` the planning step sets an empty chunk and, within the budget, goes on to `seq = 1`, where the
request begins (R115, R116). -/
def Obligations.ZeroLengthChunkIsPlanned : Prop :=
  ∀ s : State, s.seq = 0#11 → s.offset = s.totalSize → s.bytesTransferred.toNat ≤ 2 * s.totalSize.toNat →
    exec .stSendChunk s = .next { s with chunkSize := 0#13, seq := 1#11 }

/-- The sub-steps of `ENCODE`: one header write each at `seq` 1 to 4, a payload pair at `5 + i`, and at `5 + n` the `GO`
that starts the wait; a chunk size that is no multiple of 4 faults at `seq = 1` (R105), and a payload dword outside the
image faults at its sub-step (R34, R85, R117 c, U1). Beyond `seq = 1` a chunk size that is no multiple of 4 counts by its
floor, which is the model's (DESIGN CHOICE, log entry 23). -/
def Obligations.SendChunkSubSteps : Prop :=
  ∀ (s : State) (n : Nat), s.mapped = true → n = s.chunkSize.toNat / 4 →
    (s.seq = 1#11 → s.chunkSize.toNat % 4 ≠ 0 → exec .stSendChunk s = .fault .chunkNotDwordMultiple)
    ∧ (s.seq = 1#11 → s.chunkSize.toNat % 4 = 0 →
        exec .stSendChunk s = .next { s with
          trace := s.trace ++ [.wr .wdata (s.base + 0x8#64) s.cfg.headerConst], seq := 2#11 })
    ∧ (s.seq = 2#11 → exec .stSendChunk s = .next { s with
          trace := s.trace ++ [.wr .wdata (s.base + 0x8#64) (BitVec.ofNat 32 (n + 4))], seq := 3#11 })
    ∧ (s.seq = 3#11 → exec .stSendChunk s = .next { s with
          trace := s.trace ++ [.wr .wdata (s.base + 0x8#64) 0x00000003#32], seq := 4#11 })
    ∧ (s.seq = 4#11 → exec .stSendChunk s = .next { s with
          trace := s.trace ++ [.wr .wdata (s.base + 0x8#64) 0x00000000#32], seq := 5#11 })
    ∧ (∀ (i : Nat) (a : Word), i < n → s.seq.toNat = 5 + i → a = s.offset + BitVec.ofNat 32 (4 * i) →
        a.toNat + 3 < s.totalSize.toNat →
        exec .stSendChunk s = .next { s with
          trace := s.trace ++ [.img a (Memory.readDword s.image a.toNat),
            .wr .wdata (s.base + 0x8#64) (Memory.readDword s.image a.toNat)]
          seq := s.seq + 1#11 })
    ∧ (∀ (i : Nat) (a : Word), i < n → s.seq.toNat = 5 + i → a = s.offset + BitVec.ofNat 32 (4 * i) →
        s.totalSize.toNat ≤ a.toNat + 3 → exec .stSendChunk s = .fault .imageOutOfBounds)
    ∧ (s.seq.toNat = 5 + n → exec .stSendChunk s = .next { s with
          trace := s.trace ++ [.wr .ctrl (s.base + 0x0#64) 0x80000000#32], pollCount := 0#14
          st := .waitReady, seq := 0#11 })

/-- The poll step: TICK, then one Status read, then the end of the wait in the same step where the sample exits or is the
`POLL_MAX`-th (R106, R107). A sample exits where READY is set, or where ERROR is set and POLL_EXIT_ON_ERROR holds (R108);
so one with ERROR set ends the wait as Error or, with POLL_EXIT_ON_ERROR false and READY clear, only as the last. -/
def Obligations.PollStepSamplesOnce : Prop :=
  ∀ (s t : State) (w : Word), s.mapped = true → w = statusAnswer s →
    t = { s with
      statusIn := s.statusIn.tail, draws := if s.statusIn = [] then s.draws + 1 else s.draws
      pollCount := s.pollCount + 1#14, lastStatus := w
      trace := s.trace ++ [.tick, .rd .status (s.base + 0x4#64) w] } →
    exec .stWaitReady s = .next (
      if w.getLsbD 2 = true then
        (if w.getLsbD 31 = true ∨ (s.cfg.pollExitOnError = true ∧ w.getLsbD 2 = true)
            ∨ t.pollCount.toNat = 10000 then
          { t with outcome := .error, st := .failed, seq := 0#11 } else t)
      else if w.getLsbD 31 = true then
        { t with bytesTransferred := s.bytesTransferred + s.chunkSize.setWidth 32, st := .readResponse, seq := 0#11 }
      else if t.pollCount.toNat = 10000 then { t with outcome := .timeout, st := .failed, seq := 0#11 }
      else t)

/-- The reads of ReadResponse: at `seq = 2j` one read into latch `j`, with the echo checks after latches 0 and 1
(R91, R92). -/
def Obligations.ReadResponseReads : Prop :=
  ∀ (s t : State) (v : Word), s.mapped = true → v = rdataAnswer s →
    t = { s with
      rdataIn := s.rdataIn.tail, draws := if s.rdataIn = [] then s.draws + 1 else s.draws
      trace := s.trace ++ [.rd .rdata (s.base + 0xC#64) v], seq := s.seq + 1#11 } →
    (s.seq = 0#11 → exec .stReadResponse s = .next { t with
        respHeader := v, warnHdr := if v = s.cfg.headerConst then s.warnHdr else true })
    ∧ (s.seq = 2#11 → exec .stReadResponse s = .next { t with
        respLength := v, warnLen := if v = s.cfg.respLenExpected then s.warnLen else true })
    ∧ (s.seq = 4#11 → exec .stReadResponse s = .next { t with respNext := v })
    ∧ (s.seq = 6#11 → exec .stReadResponse s = .next { t with respFlags := v })

/-- The acknowledges of ReadResponse: at `seq = 2j + 1` one write of 0, and after the last one the result (R91, R110). -/
def Obligations.ReadResponseAcknowledges : Prop :=
  ∀ (s t : State), s.mapped = true →
    t = { s with trace := s.trace ++ [.wr .rdata (s.base + 0xC#64) 0x00000000#32] } →
    (s.seq = 1#11 ∨ s.seq = 3#11 ∨ s.seq = 5#11 →
        exec .stReadResponse s = .next { t with seq := s.seq + 1#11 })
    ∧ (s.seq = 7#11 → exec .stReadResponse s = .next (
        if s.respFlags.getLsbD s.cfg.respErrorBit.val = true then
          { t with outcome := .error, st := .failed, seq := 0#11 }
        else if s.respNext = 0xFFFFFFFF#32 then
          { t with offset := 0xFFFFFFFF#32, outcome := .ok, st := .done, seq := 0#11 }
        else { t with offset := s.respNext, st := .sendChunk, seq := 0#11 }))

/-- The finishing step is the same in Done and Failed: UNMAP where the window is held, then DONE, then Idle (R111).
What it reports with outcome None is the model's (DESIGN CHOICE, log entry 24). -/
def Obligations.FinishingReleasesAndReports : Prop :=
  ∀ (s : State) (e : Event), e = .done (decide (s.outcome = .ok)) s.outcome s.warnHdr s.warnLen →
    (s.mapped = true →
      exec .stDone s = .next { s with mapped := false, trace := s.trace ++ [.unmap, e], st := .idle, seq := 0#11 }
      ∧ exec .stFailed s = .next { s with mapped := false, trace := s.trace ++ [.unmap, e], st := .idle, seq := 0#11 })
    ∧ (s.mapped = false →
      exec .stDone s = .next { s with trace := s.trace ++ [e], st := .idle, seq := 0#11 }
      ∧ exec .stFailed s = .next { s with trace := s.trace ++ [e], st := .idle, seq := 0#11 })

/-! ### Whole-machine rules -/

/-- No step makes a control transition outside R112. -/
def Obligations.ControlTransitionsAreClosed : Prop :=
  ∀ s t : State, s.resetIn = false → step s = .next t → isTransition s.st t.st = true

/-- A step fails exactly where the table of R134 says, and with the kind it gives. -/
def Obligations.FailureTableIsComplete : Prop :=
  ∀ s t : State, s.resetIn = false → step s = .next t →
    (t.st = .failed ↔ failureOf s t ≠ none) ∧ ∀ k, failureOf s t = some k → t.outcome = k.outcome

/-- During a run no step writes `base`, `totalSize`, the parameters or a byte of the image, and none takes a host command
(R11, R27, R41). -/
def Obligations.RunOperandsAreConstant : Prop :=
  ∀ s t : State, s.resetIn = false → s.st ≠ .idle → step s = .next t →
    t.base = s.base ∧ t.totalSize = s.totalSize ∧ t.cfg = s.cfg ∧ t.hostIn = s.hostIn
    ∧ ∀ a, Memory.read t.image a = Memory.read s.image a

/-- No operation writes the image or the parameters; only Idle, taking a host command, changes the image, and to the one the
host offers (R30 b, R41). -/
def Obligations.NoOperationWritesImage : Prop :=
  ∀ (i : Instr) (s t : State), exec i s = .next t →
    t.cfg = s.cfg
    ∧ (i ≠ .stIdle → ∀ a, Memory.read t.image a = Memory.read s.image a)
    ∧ (i = .stIdle → t.image = s.image ∨ ∃ c ∈ s.hostIn, t.image = c.image)

/-- The invariants hold at reset. -/
def Obligations.InvariantsHoldAtReset : Prop :=
  ControlInv State.reset ∧ BudgetInv State.reset ∧ ImageInv State.reset ∧ ProtocolInv State.reset

/-- Every step keeps the invariant of the control state: the ranges of the counters, the window held exactly in the states
that use it, the outcome each state stands for (R12, R13, R15, R19, R111, R161). -/
def Obligations.StepKeepsControlInv : Prop :=
  ∀ s t : State, ControlInv s → step s = .next t → ControlInv t

/-- Every step keeps the byte budget: `bytesTransferred` never exceeds `2 × totalSize`, for every device (R29 a, R114). -/
def Obligations.StepKeepsByteBudget : Prop :=
  ∀ s t : State, BudgetInv s → step s = .next t → BudgetInv t

/-- Every step keeps the image buffer in its canonical form and, during a run, inside `totalSize` (R30 b, R41). -/
def Obligations.StepKeepsImageCanonical : Prop :=
  ∀ s t : State, ImageInv s → step s = .next t → ImageInv t

/-- Every bus access that a step adds to the trace of a run is one of the five of R71, at its register's address inside the
window. -/
def Obligations.OnlyLegalAccessesAreIssued : Prop :=
  ∀ s t : State, s.trace.all (legalAccess s.base) = true → step s = .next t →
    t.trace.all (legalAccess t.base) = true

/-- Every step extends the trace of the run by events the protocol allows there: `MAP` first and once, then the one `ABORT`;
each request whole, of the announced length, before its `GO`; each Status read after a tick, at most 10000 in a wait;
response reads only after a Ready sample, each acknowledged by the very next event; `UNMAP` and `DONE` last, with nothing
between a failure and them (R119, R163 to R168). -/
def Obligations.StepKeepsProtocol : Prop :=
  ∀ s t : State, ControlInv s → ProtocolInv s → step s = .next t → ProtocolInv t

/-- Every wait ends within `POLL_MAX` polls (R106, R171). -/
def Obligations.WaitEndsWithinPollMax : Prop :=
  ∀ s : State, ControlInv s → s.resetIn = false → s.st = .waitReady →
    ∃ (k : Nat) (t : State), k ≤ 10000 ∧ core.run k s = .next t ∧ t.st ≠ .waitReady

/-! ### Whole runs (spec/43 R115, R118, R121) -/

/-- The run whose mapping fails is exactly `START`, `MAP -> fail`, `DONE(0, Error, 0, 0)` (R102, R119 b). -/
def Obligations.StageWithoutWindow : Prop :=
  ∀ (s : State) (b : Addr) (t : Word) (ms : List MapAnswer),
    StartPremises b t s → s.mapped = false → s.mapIn = .fail :: ms →
    exec (.stage b t) s = .next { s with
      base := b, totalSize := t, offset := 0#32, bytesTransferred := 0#32, outcome := .error
      warnHdr := false, warnLen := false, mapIn := ms, st := .idle, seq := 0#11
      trace := [.start b t, .map b .fail, .done false .error false false] }

/-- `totalSize = 0`: one transaction with an empty payload, which ends the run with Ok where the device answers Ready and
the sentinel (R115, D11); the twenty events of the run (spec/95 P8). -/
def Obligations.StageOfEmptyImage : Prop :=
  ∀ (s : State) (b : Addr) (w h l f : Word) (ms : List MapAnswer) (ws rs : List Word),
    StartPremises b 0#32 s → s.mapIn = .ok :: ms → s.statusIn = w :: ws →
    classify w = .ready → s.rdataIn = h :: l :: 0xFFFFFFFF#32 :: f :: rs → respErrorSet s.cfg f = false →
    exec (.stage b 0#32) s = .next { s with
      base := b, totalSize := 0#32, offset := 0xFFFFFFFF#32, bytesTransferred := 0#32, chunkSize := 0#13
      st := .idle, seq := 0#11, pollCount := 1#14, lastStatus := w, outcome := .ok
      warnHdr := h != s.cfg.headerConst, warnLen := l != s.cfg.respLenExpected
      respHeader := h, respLength := l, respNext := 0xFFFFFFFF#32, respFlags := f, mapped := false
      mapIn := ms, statusIn := ws, rdataIn := rs
      trace := [.start b 0#32, .map b .ok, .wr .ctrl (regAddr b .ctrl) 0x00000001#32,
        .wr .wdata (regAddr b .wdata) s.cfg.headerConst, .wr .wdata (regAddr b .wdata) 0x00000004#32,
        .wr .wdata (regAddr b .wdata) 0x00000003#32, .wr .wdata (regAddr b .wdata) 0x00000000#32,
        .wr .ctrl (regAddr b .ctrl) 0x80000000#32, .tick, .rd .status (regAddr b .status) w,
        .rd .rdata (regAddr b .rdata) h, .wr .rdata (regAddr b .rdata) 0#32,
        .rd .rdata (regAddr b .rdata) l, .wr .rdata (regAddr b .rdata) 0#32,
        .rd .rdata (regAddr b .rdata) 0xFFFFFFFF#32, .wr .rdata (regAddr b .rdata) 0#32,
        .rd .rdata (regAddr b .rdata) f, .wr .rdata (regAddr b .rdata) 0#32,
        .unmap, .done true .ok (h != s.cfg.headerConst) (l != s.cfg.respLenExpected)] }

/-- `STAGE` answers what the run of the small steps after its `START` comes to (R100, R121): the state in which that run first
rests in Idle again, `DONE` its last event; the fault it stops with; or, by the fault `runNeverEnds`, that it never rests
and never stops (R116, R170). That a run without end is a fault of `STAGE` is the model's (DESIGN CHOICE, log entry 11). -/
def Obligations.StageAgreesWithSteps : Prop :=
  ∀ (s u : State) (b : Addr) (t : Word), s.resetIn = false → exec (.start b t) s = .next u →
    match exec (.stage b t) s with
    | .next w =>
      w.st = .idle
      ∧ (∃ es, w.trace = es ++ [.done (decide (w.outcome = .ok)) w.outcome w.warnHdr w.warnLen])
      ∧ ∃ k, core.run k u = .next w ∧ ∀ j < k, ∃ v : State, core.run j u = .next v ∧ v.st ≠ .idle
    | .fault .runNeverEnds => ∀ k, ∃ v : State, core.run k u = .next v ∧ v.st ≠ .idle
    | .fault f => ∃ k, core.run k u = .fault f
    | .refused _ => False

/-- Against a conforming device a run of a nonempty image ends with `DONE(1, Ok, 0, 0)` after `ceil(totalSize / 4096)`
transactions and `bytesTransferred = totalSize`. The image's dwords are fetched once each in address order, and each is
written to Write-data by the very next event; no other word is written there but the four header words of each
transaction (R118). -/
def Obligations.ConformingRunEndsOk : Prop :=
  ∀ (s : State) (b : Addr) (t : Word) (ms : List MapAnswer),
    StartPremises b t s → 0 < t.toNat → s.mapIn = .ok :: ms →
    Conforming s.cfg t.toNat 0 s.statusIn s.rdataIn →
    ∃ u, exec (.stage b t) s = .next u
      ∧ u.st = .idle ∧ u.outcome = .ok ∧ u.mapped = false ∧ u.bytesTransferred = t
      ∧ (∃ es, u.trace = es ++ [.unmap, .done true .ok false false])
      ∧ goCount u.trace = (t.toNat + 4095) / 4096
      ∧ fetchAddrs u.trace = ((List.range (t.toNat / 4)).map fun i => BitVec.ofNat 32 (4 * i))
      ∧ sentDwords u.trace = ((List.range (t.toNat / 4)).map fun i =>
          (BitVec.ofNat 32 (4 * i), Memory.readDword s.image (4 * i)))
      ∧ wdataCount u.trace = t.toNat / 4 + 4 * ((t.toNat + 4095) / 4096)
end

