-- ==== Sys2Proof/Laws/Memory.lean ====
section
/-! SUPPORT. The image buffer: a read after a write, and the canonical form under every memory operation. -/

namespace Sys2Proof.Machine

/-- Below its first admitted address a rising memory reads as unlisted. -/
theorem Memory.read_below {lo a : Nat} {m : Memory} (h : Memory.risesFrom lo m = true) (ha : a < lo) :
    Memory.read m a = unlistedByte := by
  induction m generalizing lo with
  | nil => rfl
  | cons c m ih =>
    obtain ⟨k, v⟩ := c
    simp only [risesFrom, Bool.and_eq_true, decide_eq_true_eq] at h
    have hk : ¬ a = k := by omega
    simp only [read, if_neg hk]
    exact ih h.2 (by omega)

/-- A rising memory rises from every lower address. -/
theorem Memory.risesFrom_mono {lo lo' : Nat} {m : Memory} (h : Memory.risesFrom lo m = true) (hl : lo' ≤ lo) :
    Memory.risesFrom lo' m = true := by
  cases m with
  | nil => rfl
  | cons c m =>
    obtain ⟨k, v⟩ := c
    simp only [risesFrom, Bool.and_eq_true, decide_eq_true_eq] at h ⊢
    exact ⟨⟨by omega, h.1.2⟩, h.2⟩

/-- A write keeps a memory rising from an address at or below the one written. -/
theorem Memory.write_risesFrom {lo a : Nat} {m : Memory} (b : Byte) (h : Memory.risesFrom lo m = true)
    (ha : lo ≤ a) : Memory.risesFrom lo (Memory.write m a b) = true := by
  induction m generalizing lo with
  | nil =>
    simp only [write]
    split
    · rfl
    · simp [risesFrom, *]
  | cons c m ih =>
    obtain ⟨k, v⟩ := c
    simp only [risesFrom, Bool.and_eq_true, decide_eq_true_eq, bne_iff_ne] at h
    simp only [write]
    split
    · split
      · simp [risesFrom, h]
      · have : a + 1 ≤ k := by omega
        simp [risesFrom, *]
    · split
      · subst a
        split
        · exact risesFrom_mono h.2 (by omega)
        · simp [risesFrom, *]
      · have := ih h.2 (by omega)
        simp [risesFrom, h, this]

/-- Every write keeps the canonical form. -/
theorem Memory.write_wf (m : Memory) (a : Nat) (b : Byte) (h : Memory.wf m = true) :
    Memory.wf (Memory.write m a b) = true :=
  write_risesFrom b h (Nat.zero_le a)

/-- An image made of bytes is in its canonical form. -/
theorem Memory.ofBytes_wf (a : Nat) (bs : List Byte) : Memory.wf (Memory.ofBytes a bs) = true := by
  induction bs generalizing a with
  | nil => rfl
  | cons b bs ih => exact write_wf _ _ _ (ih (a + 1))

/-- A read after a write at the same address gives the byte written. -/
theorem Memory.read_write_same {m : Memory} (a : Nat) (b : Byte) (h : Memory.wf m = true) :
    Memory.read (Memory.write m a b) a = b := by
  unfold wf at h
  generalize 0 = lo at h
  induction m generalizing lo with
  | nil =>
    simp only [write]
    split
    · simp [read, *]
    · simp [read]
  | cons c m ih =>
    obtain ⟨k, v⟩ := c
    simp only [risesFrom, Bool.and_eq_true, decide_eq_true_eq, bne_iff_ne] at h
    simp only [write]
    split
    · have hk : ¬ a = k := by omega
      split
      · simp [read, read_below h.2 (show a < k + 1 by omega), *]
      · simp [read]
    · split
      · subst a
        split
        · simp [read_below h.2 (show k < k + 1 by omega), *]
        · simp [read]
      · simp only [read, if_neg (show ¬ a = k by assumption)]
        exact ih (k + 1) h.2

/-- A write leaves every other address alone. -/
theorem Memory.read_write_other {m : Memory} {a a' : Nat} (b : Byte) (h : Memory.wf m = true) (hn : a' ≠ a) :
    Memory.read (Memory.write m a b) a' = Memory.read m a' := by
  unfold wf at h
  generalize 0 = lo at h
  induction m generalizing lo with
  | nil =>
    simp only [write]
    split
    · rfl
    · simp [read, hn]
  | cons c m ih =>
    obtain ⟨k, v⟩ := c
    simp only [risesFrom, Bool.and_eq_true, decide_eq_true_eq, bne_iff_ne] at h
    simp only [write]
    split
    · split
      · rfl
      · simp [read, hn]
    · split
      · subst a
        split
        · simp [read, hn]
        · simp [read, hn]
      · simp only [read]
        split
        · rfl
        · exact ih (k + 1) h.2

/-- The image of reset is in its canonical form. -/
theorem Memory.reset_image_wf : Memory.wf State.reset.image = true := rfl

end Sys2Proof.Machine
end

