-- ==== Sys2Proof/Laws/State.lean ====
section
/-! SUPPORT. What each named update of the state leaves in each field: one lemma per field per update. -/

namespace Sys2Proof.Machine

/-! ### `pc <- S` -/

@[simp] theorem State.goto_cfg (s : State) (t : St) :
    (s.goto t).cfg = s.cfg := rfl
@[simp] theorem State.goto_offset (s : State) (t : St) :
    (s.goto t).offset = s.offset := rfl
@[simp] theorem State.goto_bytesTransferred (s : State) (t : St) :
    (s.goto t).bytesTransferred = s.bytesTransferred := rfl
@[simp] theorem State.goto_totalSize (s : State) (t : St) :
    (s.goto t).totalSize = s.totalSize := rfl
@[simp] theorem State.goto_base (s : State) (t : St) :
    (s.goto t).base = s.base := rfl
@[simp] theorem State.goto_chunkSize (s : State) (t : St) :
    (s.goto t).chunkSize = s.chunkSize := rfl
@[simp] theorem State.goto_st (s : State) (t : St) :
    (s.goto t).st = t := rfl
@[simp] theorem State.goto_seq (s : State) (t : St) :
    (s.goto t).seq = 0#11 := rfl
@[simp] theorem State.goto_pollCount (s : State) (t : St) :
    (s.goto t).pollCount = s.pollCount := rfl
@[simp] theorem State.goto_lastStatus (s : State) (t : St) :
    (s.goto t).lastStatus = s.lastStatus := rfl
@[simp] theorem State.goto_outcome (s : State) (t : St) :
    (s.goto t).outcome = s.outcome := rfl
@[simp] theorem State.goto_warnHdr (s : State) (t : St) :
    (s.goto t).warnHdr = s.warnHdr := rfl
@[simp] theorem State.goto_warnLen (s : State) (t : St) :
    (s.goto t).warnLen = s.warnLen := rfl
@[simp] theorem State.goto_respHeader (s : State) (t : St) :
    (s.goto t).respHeader = s.respHeader := rfl
@[simp] theorem State.goto_respLength (s : State) (t : St) :
    (s.goto t).respLength = s.respLength := rfl
@[simp] theorem State.goto_respNext (s : State) (t : St) :
    (s.goto t).respNext = s.respNext := rfl
@[simp] theorem State.goto_respFlags (s : State) (t : St) :
    (s.goto t).respFlags = s.respFlags := rfl
@[simp] theorem State.goto_mapped (s : State) (t : St) :
    (s.goto t).mapped = s.mapped := rfl
@[simp] theorem State.goto_trace (s : State) (t : St) :
    (s.goto t).trace = s.trace := rfl
@[simp] theorem State.goto_image (s : State) (t : St) :
    (s.goto t).image = s.image := rfl
@[simp] theorem State.goto_mapIn (s : State) (t : St) :
    (s.goto t).mapIn = s.mapIn := rfl
@[simp] theorem State.goto_statusIn (s : State) (t : St) :
    (s.goto t).statusIn = s.statusIn := rfl
@[simp] theorem State.goto_rdataIn (s : State) (t : St) :
    (s.goto t).rdataIn = s.rdataIn := rfl
@[simp] theorem State.goto_hostIn (s : State) (t : St) :
    (s.goto t).hostIn = s.hostIn := rfl
@[simp] theorem State.goto_resetIn (s : State) (t : St) :
    (s.goto t).resetIn = s.resetIn := rfl
@[simp] theorem State.goto_draws (s : State) (t : St) :
    (s.goto t).draws = s.draws := rfl

/-! ### `seq <- seq + 1` -/

@[simp] theorem State.advance_cfg (s : State) :
    (s.advance).cfg = s.cfg := rfl
@[simp] theorem State.advance_offset (s : State) :
    (s.advance).offset = s.offset := rfl
@[simp] theorem State.advance_bytesTransferred (s : State) :
    (s.advance).bytesTransferred = s.bytesTransferred := rfl
@[simp] theorem State.advance_totalSize (s : State) :
    (s.advance).totalSize = s.totalSize := rfl
@[simp] theorem State.advance_base (s : State) :
    (s.advance).base = s.base := rfl
@[simp] theorem State.advance_chunkSize (s : State) :
    (s.advance).chunkSize = s.chunkSize := rfl
@[simp] theorem State.advance_st (s : State) :
    (s.advance).st = s.st := rfl
@[simp] theorem State.advance_seq (s : State) :
    (s.advance).seq = s.seq + 1#11 := rfl
@[simp] theorem State.advance_pollCount (s : State) :
    (s.advance).pollCount = s.pollCount := rfl
@[simp] theorem State.advance_lastStatus (s : State) :
    (s.advance).lastStatus = s.lastStatus := rfl
@[simp] theorem State.advance_outcome (s : State) :
    (s.advance).outcome = s.outcome := rfl
@[simp] theorem State.advance_warnHdr (s : State) :
    (s.advance).warnHdr = s.warnHdr := rfl
@[simp] theorem State.advance_warnLen (s : State) :
    (s.advance).warnLen = s.warnLen := rfl
@[simp] theorem State.advance_respHeader (s : State) :
    (s.advance).respHeader = s.respHeader := rfl
@[simp] theorem State.advance_respLength (s : State) :
    (s.advance).respLength = s.respLength := rfl
@[simp] theorem State.advance_respNext (s : State) :
    (s.advance).respNext = s.respNext := rfl
@[simp] theorem State.advance_respFlags (s : State) :
    (s.advance).respFlags = s.respFlags := rfl
@[simp] theorem State.advance_mapped (s : State) :
    (s.advance).mapped = s.mapped := rfl
@[simp] theorem State.advance_trace (s : State) :
    (s.advance).trace = s.trace := rfl
@[simp] theorem State.advance_image (s : State) :
    (s.advance).image = s.image := rfl
@[simp] theorem State.advance_mapIn (s : State) :
    (s.advance).mapIn = s.mapIn := rfl
@[simp] theorem State.advance_statusIn (s : State) :
    (s.advance).statusIn = s.statusIn := rfl
@[simp] theorem State.advance_rdataIn (s : State) :
    (s.advance).rdataIn = s.rdataIn := rfl
@[simp] theorem State.advance_hostIn (s : State) :
    (s.advance).hostIn = s.hostIn := rfl
@[simp] theorem State.advance_resetIn (s : State) :
    (s.advance).resetIn = s.resetIn := rfl
@[simp] theorem State.advance_draws (s : State) :
    (s.advance).draws = s.draws := rfl

/-! ### Recording an event -/

@[simp] theorem State.emit_cfg (s : State) (e : Event) :
    (s.emit e).cfg = s.cfg := rfl
@[simp] theorem State.emit_offset (s : State) (e : Event) :
    (s.emit e).offset = s.offset := rfl
@[simp] theorem State.emit_bytesTransferred (s : State) (e : Event) :
    (s.emit e).bytesTransferred = s.bytesTransferred := rfl
@[simp] theorem State.emit_totalSize (s : State) (e : Event) :
    (s.emit e).totalSize = s.totalSize := rfl
@[simp] theorem State.emit_base (s : State) (e : Event) :
    (s.emit e).base = s.base := rfl
@[simp] theorem State.emit_chunkSize (s : State) (e : Event) :
    (s.emit e).chunkSize = s.chunkSize := rfl
@[simp] theorem State.emit_st (s : State) (e : Event) :
    (s.emit e).st = s.st := rfl
@[simp] theorem State.emit_seq (s : State) (e : Event) :
    (s.emit e).seq = s.seq := rfl
@[simp] theorem State.emit_pollCount (s : State) (e : Event) :
    (s.emit e).pollCount = s.pollCount := rfl
@[simp] theorem State.emit_lastStatus (s : State) (e : Event) :
    (s.emit e).lastStatus = s.lastStatus := rfl
@[simp] theorem State.emit_outcome (s : State) (e : Event) :
    (s.emit e).outcome = s.outcome := rfl
@[simp] theorem State.emit_warnHdr (s : State) (e : Event) :
    (s.emit e).warnHdr = s.warnHdr := rfl
@[simp] theorem State.emit_warnLen (s : State) (e : Event) :
    (s.emit e).warnLen = s.warnLen := rfl
@[simp] theorem State.emit_respHeader (s : State) (e : Event) :
    (s.emit e).respHeader = s.respHeader := rfl
@[simp] theorem State.emit_respLength (s : State) (e : Event) :
    (s.emit e).respLength = s.respLength := rfl
@[simp] theorem State.emit_respNext (s : State) (e : Event) :
    (s.emit e).respNext = s.respNext := rfl
@[simp] theorem State.emit_respFlags (s : State) (e : Event) :
    (s.emit e).respFlags = s.respFlags := rfl
@[simp] theorem State.emit_mapped (s : State) (e : Event) :
    (s.emit e).mapped = s.mapped := rfl
@[simp] theorem State.emit_trace (s : State) (e : Event) :
    (s.emit e).trace = s.trace ++ [e] := rfl
@[simp] theorem State.emit_image (s : State) (e : Event) :
    (s.emit e).image = s.image := rfl
@[simp] theorem State.emit_mapIn (s : State) (e : Event) :
    (s.emit e).mapIn = s.mapIn := rfl
@[simp] theorem State.emit_statusIn (s : State) (e : Event) :
    (s.emit e).statusIn = s.statusIn := rfl
@[simp] theorem State.emit_rdataIn (s : State) (e : Event) :
    (s.emit e).rdataIn = s.rdataIn := rfl
@[simp] theorem State.emit_hostIn (s : State) (e : Event) :
    (s.emit e).hostIn = s.hostIn := rfl
@[simp] theorem State.emit_resetIn (s : State) (e : Event) :
    (s.emit e).resetIn = s.resetIn := rfl
@[simp] theorem State.emit_draws (s : State) (e : Event) :
    (s.emit e).draws = s.draws := rfl

/-! ### The failure entry -/

@[simp] theorem raiseFail_cfg (k : FailKind) (s : State) :
    (raiseFail k s).cfg = s.cfg := rfl
@[simp] theorem raiseFail_offset (k : FailKind) (s : State) :
    (raiseFail k s).offset = s.offset := rfl
@[simp] theorem raiseFail_bytesTransferred (k : FailKind) (s : State) :
    (raiseFail k s).bytesTransferred = s.bytesTransferred := rfl
@[simp] theorem raiseFail_totalSize (k : FailKind) (s : State) :
    (raiseFail k s).totalSize = s.totalSize := rfl
@[simp] theorem raiseFail_base (k : FailKind) (s : State) :
    (raiseFail k s).base = s.base := rfl
@[simp] theorem raiseFail_chunkSize (k : FailKind) (s : State) :
    (raiseFail k s).chunkSize = s.chunkSize := rfl
@[simp] theorem raiseFail_st (k : FailKind) (s : State) :
    (raiseFail k s).st = .failed := rfl
@[simp] theorem raiseFail_seq (k : FailKind) (s : State) :
    (raiseFail k s).seq = 0#11 := rfl
@[simp] theorem raiseFail_pollCount (k : FailKind) (s : State) :
    (raiseFail k s).pollCount = s.pollCount := rfl
@[simp] theorem raiseFail_lastStatus (k : FailKind) (s : State) :
    (raiseFail k s).lastStatus = s.lastStatus := rfl
@[simp] theorem raiseFail_outcome (k : FailKind) (s : State) :
    (raiseFail k s).outcome = k.outcome := rfl
@[simp] theorem raiseFail_warnHdr (k : FailKind) (s : State) :
    (raiseFail k s).warnHdr = s.warnHdr := rfl
@[simp] theorem raiseFail_warnLen (k : FailKind) (s : State) :
    (raiseFail k s).warnLen = s.warnLen := rfl
@[simp] theorem raiseFail_respHeader (k : FailKind) (s : State) :
    (raiseFail k s).respHeader = s.respHeader := rfl
@[simp] theorem raiseFail_respLength (k : FailKind) (s : State) :
    (raiseFail k s).respLength = s.respLength := rfl
@[simp] theorem raiseFail_respNext (k : FailKind) (s : State) :
    (raiseFail k s).respNext = s.respNext := rfl
@[simp] theorem raiseFail_respFlags (k : FailKind) (s : State) :
    (raiseFail k s).respFlags = s.respFlags := rfl
@[simp] theorem raiseFail_mapped (k : FailKind) (s : State) :
    (raiseFail k s).mapped = s.mapped := rfl
@[simp] theorem raiseFail_trace (k : FailKind) (s : State) :
    (raiseFail k s).trace = s.trace := rfl
@[simp] theorem raiseFail_image (k : FailKind) (s : State) :
    (raiseFail k s).image = s.image := rfl
@[simp] theorem raiseFail_mapIn (k : FailKind) (s : State) :
    (raiseFail k s).mapIn = s.mapIn := rfl
@[simp] theorem raiseFail_statusIn (k : FailKind) (s : State) :
    (raiseFail k s).statusIn = s.statusIn := rfl
@[simp] theorem raiseFail_rdataIn (k : FailKind) (s : State) :
    (raiseFail k s).rdataIn = s.rdataIn := rfl
@[simp] theorem raiseFail_hostIn (k : FailKind) (s : State) :
    (raiseFail k s).hostIn = s.hostIn := rfl
@[simp] theorem raiseFail_resetIn (k : FailKind) (s : State) :
    (raiseFail k s).resetIn = s.resetIn := rfl
@[simp] theorem raiseFail_draws (k : FailKind) (s : State) :
    (raiseFail k s).draws = s.draws := rfl

/-! ### Filling a latch -/

@[simp] theorem State.setLatch_cfg (s : State) (l : Latch) (v : Word) :
    (s.setLatch l v).cfg = s.cfg := by cases l <;> rfl
@[simp] theorem State.setLatch_offset (s : State) (l : Latch) (v : Word) :
    (s.setLatch l v).offset = s.offset := by cases l <;> rfl
@[simp] theorem State.setLatch_bytesTransferred (s : State) (l : Latch) (v : Word) :
    (s.setLatch l v).bytesTransferred = s.bytesTransferred := by cases l <;> rfl
@[simp] theorem State.setLatch_totalSize (s : State) (l : Latch) (v : Word) :
    (s.setLatch l v).totalSize = s.totalSize := by cases l <;> rfl
@[simp] theorem State.setLatch_base (s : State) (l : Latch) (v : Word) :
    (s.setLatch l v).base = s.base := by cases l <;> rfl
@[simp] theorem State.setLatch_chunkSize (s : State) (l : Latch) (v : Word) :
    (s.setLatch l v).chunkSize = s.chunkSize := by cases l <;> rfl
@[simp] theorem State.setLatch_st (s : State) (l : Latch) (v : Word) :
    (s.setLatch l v).st = s.st := by cases l <;> rfl
@[simp] theorem State.setLatch_seq (s : State) (l : Latch) (v : Word) :
    (s.setLatch l v).seq = s.seq := by cases l <;> rfl
@[simp] theorem State.setLatch_pollCount (s : State) (l : Latch) (v : Word) :
    (s.setLatch l v).pollCount = s.pollCount := by cases l <;> rfl
@[simp] theorem State.setLatch_lastStatus (s : State) (l : Latch) (v : Word) :
    (s.setLatch l v).lastStatus = s.lastStatus := by cases l <;> rfl
@[simp] theorem State.setLatch_outcome (s : State) (l : Latch) (v : Word) :
    (s.setLatch l v).outcome = s.outcome := by cases l <;> rfl
@[simp] theorem State.setLatch_warnHdr (s : State) (l : Latch) (v : Word) :
    (s.setLatch l v).warnHdr = s.warnHdr := by cases l <;> rfl
@[simp] theorem State.setLatch_warnLen (s : State) (l : Latch) (v : Word) :
    (s.setLatch l v).warnLen = s.warnLen := by cases l <;> rfl
@[simp] theorem State.setLatch_respHeader (s : State) (l : Latch) (v : Word) :
    (s.setLatch l v).respHeader = if l = .header then v else s.respHeader := by cases l <;> rfl
@[simp] theorem State.setLatch_respLength (s : State) (l : Latch) (v : Word) :
    (s.setLatch l v).respLength = if l = .length then v else s.respLength := by cases l <;> rfl
@[simp] theorem State.setLatch_respNext (s : State) (l : Latch) (v : Word) :
    (s.setLatch l v).respNext = if l = .next then v else s.respNext := by cases l <;> rfl
@[simp] theorem State.setLatch_respFlags (s : State) (l : Latch) (v : Word) :
    (s.setLatch l v).respFlags = if l = .flags then v else s.respFlags := by cases l <;> rfl
@[simp] theorem State.setLatch_mapped (s : State) (l : Latch) (v : Word) :
    (s.setLatch l v).mapped = s.mapped := by cases l <;> rfl
@[simp] theorem State.setLatch_trace (s : State) (l : Latch) (v : Word) :
    (s.setLatch l v).trace = s.trace := by cases l <;> rfl
@[simp] theorem State.setLatch_image (s : State) (l : Latch) (v : Word) :
    (s.setLatch l v).image = s.image := by cases l <;> rfl
@[simp] theorem State.setLatch_mapIn (s : State) (l : Latch) (v : Word) :
    (s.setLatch l v).mapIn = s.mapIn := by cases l <;> rfl
@[simp] theorem State.setLatch_statusIn (s : State) (l : Latch) (v : Word) :
    (s.setLatch l v).statusIn = s.statusIn := by cases l <;> rfl
@[simp] theorem State.setLatch_rdataIn (s : State) (l : Latch) (v : Word) :
    (s.setLatch l v).rdataIn = s.rdataIn := by cases l <;> rfl
@[simp] theorem State.setLatch_hostIn (s : State) (l : Latch) (v : Word) :
    (s.setLatch l v).hostIn = s.hostIn := by cases l <;> rfl
@[simp] theorem State.setLatch_resetIn (s : State) (l : Latch) (v : Word) :
    (s.setLatch l v).resetIn = s.resetIn := by cases l <;> rfl
@[simp] theorem State.setLatch_draws (s : State) (l : Latch) (v : Word) :
    (s.setLatch l v).draws = s.draws := by cases l <;> rfl

/-! ### Filling a latch, where there is one -/

@[simp] theorem State.setLatch?_cfg (s : State) (l : Option Latch) (v : Word) :
    (s.setLatch? l v).cfg = s.cfg := by
  cases l with
  | none => rfl
  | some l => cases l <;> rfl
@[simp] theorem State.setLatch?_offset (s : State) (l : Option Latch) (v : Word) :
    (s.setLatch? l v).offset = s.offset := by
  cases l with
  | none => rfl
  | some l => cases l <;> rfl
@[simp] theorem State.setLatch?_bytesTransferred (s : State) (l : Option Latch) (v : Word) :
    (s.setLatch? l v).bytesTransferred = s.bytesTransferred := by
  cases l with
  | none => rfl
  | some l => cases l <;> rfl
@[simp] theorem State.setLatch?_totalSize (s : State) (l : Option Latch) (v : Word) :
    (s.setLatch? l v).totalSize = s.totalSize := by
  cases l with
  | none => rfl
  | some l => cases l <;> rfl
@[simp] theorem State.setLatch?_base (s : State) (l : Option Latch) (v : Word) :
    (s.setLatch? l v).base = s.base := by
  cases l with
  | none => rfl
  | some l => cases l <;> rfl
@[simp] theorem State.setLatch?_chunkSize (s : State) (l : Option Latch) (v : Word) :
    (s.setLatch? l v).chunkSize = s.chunkSize := by
  cases l with
  | none => rfl
  | some l => cases l <;> rfl
@[simp] theorem State.setLatch?_st (s : State) (l : Option Latch) (v : Word) :
    (s.setLatch? l v).st = s.st := by
  cases l with
  | none => rfl
  | some l => cases l <;> rfl
@[simp] theorem State.setLatch?_seq (s : State) (l : Option Latch) (v : Word) :
    (s.setLatch? l v).seq = s.seq := by
  cases l with
  | none => rfl
  | some l => cases l <;> rfl
@[simp] theorem State.setLatch?_pollCount (s : State) (l : Option Latch) (v : Word) :
    (s.setLatch? l v).pollCount = s.pollCount := by
  cases l with
  | none => rfl
  | some l => cases l <;> rfl
@[simp] theorem State.setLatch?_lastStatus (s : State) (l : Option Latch) (v : Word) :
    (s.setLatch? l v).lastStatus = s.lastStatus := by
  cases l with
  | none => rfl
  | some l => cases l <;> rfl
@[simp] theorem State.setLatch?_outcome (s : State) (l : Option Latch) (v : Word) :
    (s.setLatch? l v).outcome = s.outcome := by
  cases l with
  | none => rfl
  | some l => cases l <;> rfl
@[simp] theorem State.setLatch?_warnHdr (s : State) (l : Option Latch) (v : Word) :
    (s.setLatch? l v).warnHdr = s.warnHdr := by
  cases l with
  | none => rfl
  | some l => cases l <;> rfl
@[simp] theorem State.setLatch?_warnLen (s : State) (l : Option Latch) (v : Word) :
    (s.setLatch? l v).warnLen = s.warnLen := by
  cases l with
  | none => rfl
  | some l => cases l <;> rfl
@[simp] theorem State.setLatch?_respHeader (s : State) (l : Option Latch) (v : Word) :
    (s.setLatch? l v).respHeader = if l = some .header then v else s.respHeader := by
  cases l with
  | none => rfl
  | some l => cases l <;> rfl
@[simp] theorem State.setLatch?_respLength (s : State) (l : Option Latch) (v : Word) :
    (s.setLatch? l v).respLength = if l = some .length then v else s.respLength := by
  cases l with
  | none => rfl
  | some l => cases l <;> rfl
@[simp] theorem State.setLatch?_respNext (s : State) (l : Option Latch) (v : Word) :
    (s.setLatch? l v).respNext = if l = some .next then v else s.respNext := by
  cases l with
  | none => rfl
  | some l => cases l <;> rfl
@[simp] theorem State.setLatch?_respFlags (s : State) (l : Option Latch) (v : Word) :
    (s.setLatch? l v).respFlags = if l = some .flags then v else s.respFlags := by
  cases l with
  | none => rfl
  | some l => cases l <;> rfl
@[simp] theorem State.setLatch?_mapped (s : State) (l : Option Latch) (v : Word) :
    (s.setLatch? l v).mapped = s.mapped := by
  cases l with
  | none => rfl
  | some l => cases l <;> rfl
@[simp] theorem State.setLatch?_trace (s : State) (l : Option Latch) (v : Word) :
    (s.setLatch? l v).trace = s.trace := by
  cases l with
  | none => rfl
  | some l => cases l <;> rfl
@[simp] theorem State.setLatch?_image (s : State) (l : Option Latch) (v : Word) :
    (s.setLatch? l v).image = s.image := by
  cases l with
  | none => rfl
  | some l => cases l <;> rfl
@[simp] theorem State.setLatch?_mapIn (s : State) (l : Option Latch) (v : Word) :
    (s.setLatch? l v).mapIn = s.mapIn := by
  cases l with
  | none => rfl
  | some l => cases l <;> rfl
@[simp] theorem State.setLatch?_statusIn (s : State) (l : Option Latch) (v : Word) :
    (s.setLatch? l v).statusIn = s.statusIn := by
  cases l with
  | none => rfl
  | some l => cases l <;> rfl
@[simp] theorem State.setLatch?_rdataIn (s : State) (l : Option Latch) (v : Word) :
    (s.setLatch? l v).rdataIn = s.rdataIn := by
  cases l with
  | none => rfl
  | some l => cases l <;> rfl
@[simp] theorem State.setLatch?_hostIn (s : State) (l : Option Latch) (v : Word) :
    (s.setLatch? l v).hostIn = s.hostIn := by
  cases l with
  | none => rfl
  | some l => cases l <;> rfl
@[simp] theorem State.setLatch?_resetIn (s : State) (l : Option Latch) (v : Word) :
    (s.setLatch? l v).resetIn = s.resetIn := by
  cases l with
  | none => rfl
  | some l => cases l <;> rfl
@[simp] theorem State.setLatch?_draws (s : State) (l : Option Latch) (v : Word) :
    (s.setLatch? l v).draws = s.draws := by
  cases l with
  | none => rfl
  | some l => cases l <;> rfl

/-! ### After an answer of Status -/

@[simp] theorem afterStatusAnswer_cfg (s : State) :
    (afterStatusAnswer s).cfg = s.cfg := by
  unfold afterStatusAnswer; split <;> simp_all
@[simp] theorem afterStatusAnswer_offset (s : State) :
    (afterStatusAnswer s).offset = s.offset := by
  unfold afterStatusAnswer; split <;> simp_all
@[simp] theorem afterStatusAnswer_bytesTransferred (s : State) :
    (afterStatusAnswer s).bytesTransferred = s.bytesTransferred := by
  unfold afterStatusAnswer; split <;> simp_all
@[simp] theorem afterStatusAnswer_totalSize (s : State) :
    (afterStatusAnswer s).totalSize = s.totalSize := by
  unfold afterStatusAnswer; split <;> simp_all
@[simp] theorem afterStatusAnswer_base (s : State) :
    (afterStatusAnswer s).base = s.base := by
  unfold afterStatusAnswer; split <;> simp_all
@[simp] theorem afterStatusAnswer_chunkSize (s : State) :
    (afterStatusAnswer s).chunkSize = s.chunkSize := by
  unfold afterStatusAnswer; split <;> simp_all
@[simp] theorem afterStatusAnswer_st (s : State) :
    (afterStatusAnswer s).st = s.st := by
  unfold afterStatusAnswer; split <;> simp_all
@[simp] theorem afterStatusAnswer_seq (s : State) :
    (afterStatusAnswer s).seq = s.seq := by
  unfold afterStatusAnswer; split <;> simp_all
@[simp] theorem afterStatusAnswer_pollCount (s : State) :
    (afterStatusAnswer s).pollCount = s.pollCount := by
  unfold afterStatusAnswer; split <;> simp_all
@[simp] theorem afterStatusAnswer_lastStatus (s : State) :
    (afterStatusAnswer s).lastStatus = s.lastStatus := by
  unfold afterStatusAnswer; split <;> simp_all
@[simp] theorem afterStatusAnswer_outcome (s : State) :
    (afterStatusAnswer s).outcome = s.outcome := by
  unfold afterStatusAnswer; split <;> simp_all
@[simp] theorem afterStatusAnswer_warnHdr (s : State) :
    (afterStatusAnswer s).warnHdr = s.warnHdr := by
  unfold afterStatusAnswer; split <;> simp_all
@[simp] theorem afterStatusAnswer_warnLen (s : State) :
    (afterStatusAnswer s).warnLen = s.warnLen := by
  unfold afterStatusAnswer; split <;> simp_all
@[simp] theorem afterStatusAnswer_respHeader (s : State) :
    (afterStatusAnswer s).respHeader = s.respHeader := by
  unfold afterStatusAnswer; split <;> simp_all
@[simp] theorem afterStatusAnswer_respLength (s : State) :
    (afterStatusAnswer s).respLength = s.respLength := by
  unfold afterStatusAnswer; split <;> simp_all
@[simp] theorem afterStatusAnswer_respNext (s : State) :
    (afterStatusAnswer s).respNext = s.respNext := by
  unfold afterStatusAnswer; split <;> simp_all
@[simp] theorem afterStatusAnswer_respFlags (s : State) :
    (afterStatusAnswer s).respFlags = s.respFlags := by
  unfold afterStatusAnswer; split <;> simp_all
@[simp] theorem afterStatusAnswer_mapped (s : State) :
    (afterStatusAnswer s).mapped = s.mapped := by
  unfold afterStatusAnswer; split <;> simp_all
@[simp] theorem afterStatusAnswer_trace (s : State) :
    (afterStatusAnswer s).trace = s.trace := by
  unfold afterStatusAnswer; split <;> simp_all
@[simp] theorem afterStatusAnswer_image (s : State) :
    (afterStatusAnswer s).image = s.image := by
  unfold afterStatusAnswer; split <;> simp_all
@[simp] theorem afterStatusAnswer_mapIn (s : State) :
    (afterStatusAnswer s).mapIn = s.mapIn := by
  unfold afterStatusAnswer; split <;> simp_all
@[simp] theorem afterStatusAnswer_statusIn (s : State) :
    (afterStatusAnswer s).statusIn = s.statusIn.tail := by
  unfold afterStatusAnswer; split <;> simp_all
@[simp] theorem afterStatusAnswer_rdataIn (s : State) :
    (afterStatusAnswer s).rdataIn = s.rdataIn := by
  unfold afterStatusAnswer; split <;> simp_all
@[simp] theorem afterStatusAnswer_hostIn (s : State) :
    (afterStatusAnswer s).hostIn = s.hostIn := by
  unfold afterStatusAnswer; split <;> simp_all
@[simp] theorem afterStatusAnswer_resetIn (s : State) :
    (afterStatusAnswer s).resetIn = s.resetIn := by
  unfold afterStatusAnswer; split <;> simp_all
@[simp] theorem afterStatusAnswer_draws (s : State) :
    (afterStatusAnswer s).draws = if s.statusIn = [] then s.draws + 1 else s.draws := by
  unfold afterStatusAnswer; split <;> simp_all

/-! ### After an answer of Rdata -/

@[simp] theorem afterRdataAnswer_cfg (s : State) :
    (afterRdataAnswer s).cfg = s.cfg := by
  unfold afterRdataAnswer; split <;> simp_all
@[simp] theorem afterRdataAnswer_offset (s : State) :
    (afterRdataAnswer s).offset = s.offset := by
  unfold afterRdataAnswer; split <;> simp_all
@[simp] theorem afterRdataAnswer_bytesTransferred (s : State) :
    (afterRdataAnswer s).bytesTransferred = s.bytesTransferred := by
  unfold afterRdataAnswer; split <;> simp_all
@[simp] theorem afterRdataAnswer_totalSize (s : State) :
    (afterRdataAnswer s).totalSize = s.totalSize := by
  unfold afterRdataAnswer; split <;> simp_all
@[simp] theorem afterRdataAnswer_base (s : State) :
    (afterRdataAnswer s).base = s.base := by
  unfold afterRdataAnswer; split <;> simp_all
@[simp] theorem afterRdataAnswer_chunkSize (s : State) :
    (afterRdataAnswer s).chunkSize = s.chunkSize := by
  unfold afterRdataAnswer; split <;> simp_all
@[simp] theorem afterRdataAnswer_st (s : State) :
    (afterRdataAnswer s).st = s.st := by
  unfold afterRdataAnswer; split <;> simp_all
@[simp] theorem afterRdataAnswer_seq (s : State) :
    (afterRdataAnswer s).seq = s.seq := by
  unfold afterRdataAnswer; split <;> simp_all
@[simp] theorem afterRdataAnswer_pollCount (s : State) :
    (afterRdataAnswer s).pollCount = s.pollCount := by
  unfold afterRdataAnswer; split <;> simp_all
@[simp] theorem afterRdataAnswer_lastStatus (s : State) :
    (afterRdataAnswer s).lastStatus = s.lastStatus := by
  unfold afterRdataAnswer; split <;> simp_all
@[simp] theorem afterRdataAnswer_outcome (s : State) :
    (afterRdataAnswer s).outcome = s.outcome := by
  unfold afterRdataAnswer; split <;> simp_all
@[simp] theorem afterRdataAnswer_warnHdr (s : State) :
    (afterRdataAnswer s).warnHdr = s.warnHdr := by
  unfold afterRdataAnswer; split <;> simp_all
@[simp] theorem afterRdataAnswer_warnLen (s : State) :
    (afterRdataAnswer s).warnLen = s.warnLen := by
  unfold afterRdataAnswer; split <;> simp_all
@[simp] theorem afterRdataAnswer_respHeader (s : State) :
    (afterRdataAnswer s).respHeader = s.respHeader := by
  unfold afterRdataAnswer; split <;> simp_all
@[simp] theorem afterRdataAnswer_respLength (s : State) :
    (afterRdataAnswer s).respLength = s.respLength := by
  unfold afterRdataAnswer; split <;> simp_all
@[simp] theorem afterRdataAnswer_respNext (s : State) :
    (afterRdataAnswer s).respNext = s.respNext := by
  unfold afterRdataAnswer; split <;> simp_all
@[simp] theorem afterRdataAnswer_respFlags (s : State) :
    (afterRdataAnswer s).respFlags = s.respFlags := by
  unfold afterRdataAnswer; split <;> simp_all
@[simp] theorem afterRdataAnswer_mapped (s : State) :
    (afterRdataAnswer s).mapped = s.mapped := by
  unfold afterRdataAnswer; split <;> simp_all
@[simp] theorem afterRdataAnswer_trace (s : State) :
    (afterRdataAnswer s).trace = s.trace := by
  unfold afterRdataAnswer; split <;> simp_all
@[simp] theorem afterRdataAnswer_image (s : State) :
    (afterRdataAnswer s).image = s.image := by
  unfold afterRdataAnswer; split <;> simp_all
@[simp] theorem afterRdataAnswer_mapIn (s : State) :
    (afterRdataAnswer s).mapIn = s.mapIn := by
  unfold afterRdataAnswer; split <;> simp_all
@[simp] theorem afterRdataAnswer_statusIn (s : State) :
    (afterRdataAnswer s).statusIn = s.statusIn := by
  unfold afterRdataAnswer; split <;> simp_all
@[simp] theorem afterRdataAnswer_rdataIn (s : State) :
    (afterRdataAnswer s).rdataIn = s.rdataIn.tail := by
  unfold afterRdataAnswer; split <;> simp_all
@[simp] theorem afterRdataAnswer_hostIn (s : State) :
    (afterRdataAnswer s).hostIn = s.hostIn := by
  unfold afterRdataAnswer; split <;> simp_all
@[simp] theorem afterRdataAnswer_resetIn (s : State) :
    (afterRdataAnswer s).resetIn = s.resetIn := by
  unfold afterRdataAnswer; split <;> simp_all
@[simp] theorem afterRdataAnswer_draws (s : State) :
    (afterRdataAnswer s).draws = if s.rdataIn = [] then s.draws + 1 else s.draws := by
  unfold afterRdataAnswer; split <;> simp_all

/-! ### After an answer of Map -/

@[simp] theorem afterMapAnswer_cfg (s : State) :
    (afterMapAnswer s).cfg = s.cfg := by
  unfold afterMapAnswer; split <;> simp_all
@[simp] theorem afterMapAnswer_offset (s : State) :
    (afterMapAnswer s).offset = s.offset := by
  unfold afterMapAnswer; split <;> simp_all
@[simp] theorem afterMapAnswer_bytesTransferred (s : State) :
    (afterMapAnswer s).bytesTransferred = s.bytesTransferred := by
  unfold afterMapAnswer; split <;> simp_all
@[simp] theorem afterMapAnswer_totalSize (s : State) :
    (afterMapAnswer s).totalSize = s.totalSize := by
  unfold afterMapAnswer; split <;> simp_all
@[simp] theorem afterMapAnswer_base (s : State) :
    (afterMapAnswer s).base = s.base := by
  unfold afterMapAnswer; split <;> simp_all
@[simp] theorem afterMapAnswer_chunkSize (s : State) :
    (afterMapAnswer s).chunkSize = s.chunkSize := by
  unfold afterMapAnswer; split <;> simp_all
@[simp] theorem afterMapAnswer_st (s : State) :
    (afterMapAnswer s).st = s.st := by
  unfold afterMapAnswer; split <;> simp_all
@[simp] theorem afterMapAnswer_seq (s : State) :
    (afterMapAnswer s).seq = s.seq := by
  unfold afterMapAnswer; split <;> simp_all
@[simp] theorem afterMapAnswer_pollCount (s : State) :
    (afterMapAnswer s).pollCount = s.pollCount := by
  unfold afterMapAnswer; split <;> simp_all
@[simp] theorem afterMapAnswer_lastStatus (s : State) :
    (afterMapAnswer s).lastStatus = s.lastStatus := by
  unfold afterMapAnswer; split <;> simp_all
@[simp] theorem afterMapAnswer_outcome (s : State) :
    (afterMapAnswer s).outcome = s.outcome := by
  unfold afterMapAnswer; split <;> simp_all
@[simp] theorem afterMapAnswer_warnHdr (s : State) :
    (afterMapAnswer s).warnHdr = s.warnHdr := by
  unfold afterMapAnswer; split <;> simp_all
@[simp] theorem afterMapAnswer_warnLen (s : State) :
    (afterMapAnswer s).warnLen = s.warnLen := by
  unfold afterMapAnswer; split <;> simp_all
@[simp] theorem afterMapAnswer_respHeader (s : State) :
    (afterMapAnswer s).respHeader = s.respHeader := by
  unfold afterMapAnswer; split <;> simp_all
@[simp] theorem afterMapAnswer_respLength (s : State) :
    (afterMapAnswer s).respLength = s.respLength := by
  unfold afterMapAnswer; split <;> simp_all
@[simp] theorem afterMapAnswer_respNext (s : State) :
    (afterMapAnswer s).respNext = s.respNext := by
  unfold afterMapAnswer; split <;> simp_all
@[simp] theorem afterMapAnswer_respFlags (s : State) :
    (afterMapAnswer s).respFlags = s.respFlags := by
  unfold afterMapAnswer; split <;> simp_all
@[simp] theorem afterMapAnswer_mapped (s : State) :
    (afterMapAnswer s).mapped = s.mapped := by
  unfold afterMapAnswer; split <;> simp_all
@[simp] theorem afterMapAnswer_trace (s : State) :
    (afterMapAnswer s).trace = s.trace := by
  unfold afterMapAnswer; split <;> simp_all
@[simp] theorem afterMapAnswer_image (s : State) :
    (afterMapAnswer s).image = s.image := by
  unfold afterMapAnswer; split <;> simp_all
@[simp] theorem afterMapAnswer_mapIn (s : State) :
    (afterMapAnswer s).mapIn = s.mapIn.tail := by
  unfold afterMapAnswer; split <;> simp_all
@[simp] theorem afterMapAnswer_statusIn (s : State) :
    (afterMapAnswer s).statusIn = s.statusIn := by
  unfold afterMapAnswer; split <;> simp_all
@[simp] theorem afterMapAnswer_rdataIn (s : State) :
    (afterMapAnswer s).rdataIn = s.rdataIn := by
  unfold afterMapAnswer; split <;> simp_all
@[simp] theorem afterMapAnswer_hostIn (s : State) :
    (afterMapAnswer s).hostIn = s.hostIn := by
  unfold afterMapAnswer; split <;> simp_all
@[simp] theorem afterMapAnswer_resetIn (s : State) :
    (afterMapAnswer s).resetIn = s.resetIn := by
  unfold afterMapAnswer; split <;> simp_all
@[simp] theorem afterMapAnswer_draws (s : State) :
    (afterMapAnswer s).draws = if s.mapIn = [] then s.draws + 1 else s.draws := by
  unfold afterMapAnswer; split <;> simp_all

/-! ### A tick -/

@[simp] theorem tickPort_cfg (s : State) :
    (tickPort s).cfg = s.cfg := rfl
@[simp] theorem tickPort_offset (s : State) :
    (tickPort s).offset = s.offset := rfl
@[simp] theorem tickPort_bytesTransferred (s : State) :
    (tickPort s).bytesTransferred = s.bytesTransferred := rfl
@[simp] theorem tickPort_totalSize (s : State) :
    (tickPort s).totalSize = s.totalSize := rfl
@[simp] theorem tickPort_base (s : State) :
    (tickPort s).base = s.base := rfl
@[simp] theorem tickPort_chunkSize (s : State) :
    (tickPort s).chunkSize = s.chunkSize := rfl
@[simp] theorem tickPort_st (s : State) :
    (tickPort s).st = s.st := rfl
@[simp] theorem tickPort_seq (s : State) :
    (tickPort s).seq = s.seq := rfl
@[simp] theorem tickPort_pollCount (s : State) :
    (tickPort s).pollCount = s.pollCount + 1#14 := rfl
@[simp] theorem tickPort_lastStatus (s : State) :
    (tickPort s).lastStatus = s.lastStatus := rfl
@[simp] theorem tickPort_outcome (s : State) :
    (tickPort s).outcome = s.outcome := rfl
@[simp] theorem tickPort_warnHdr (s : State) :
    (tickPort s).warnHdr = s.warnHdr := rfl
@[simp] theorem tickPort_warnLen (s : State) :
    (tickPort s).warnLen = s.warnLen := rfl
@[simp] theorem tickPort_respHeader (s : State) :
    (tickPort s).respHeader = s.respHeader := rfl
@[simp] theorem tickPort_respLength (s : State) :
    (tickPort s).respLength = s.respLength := rfl
@[simp] theorem tickPort_respNext (s : State) :
    (tickPort s).respNext = s.respNext := rfl
@[simp] theorem tickPort_respFlags (s : State) :
    (tickPort s).respFlags = s.respFlags := rfl
@[simp] theorem tickPort_mapped (s : State) :
    (tickPort s).mapped = s.mapped := rfl
@[simp] theorem tickPort_trace (s : State) :
    (tickPort s).trace = s.trace ++ [.tick] := rfl
@[simp] theorem tickPort_image (s : State) :
    (tickPort s).image = s.image := rfl
@[simp] theorem tickPort_mapIn (s : State) :
    (tickPort s).mapIn = s.mapIn := rfl
@[simp] theorem tickPort_statusIn (s : State) :
    (tickPort s).statusIn = s.statusIn := rfl
@[simp] theorem tickPort_rdataIn (s : State) :
    (tickPort s).rdataIn = s.rdataIn := rfl
@[simp] theorem tickPort_hostIn (s : State) :
    (tickPort s).hostIn = s.hostIn := rfl
@[simp] theorem tickPort_resetIn (s : State) :
    (tickPort s).resetIn = s.resetIn := rfl
@[simp] theorem tickPort_draws (s : State) :
    (tickPort s).draws = s.draws := rfl

/-! ### `UNMAP` -/

@[simp] theorem unmapPort_cfg (s : State) :
    (unmapPort s).cfg = s.cfg := by
  unfold unmapPort; split <;> simp_all
@[simp] theorem unmapPort_offset (s : State) :
    (unmapPort s).offset = s.offset := by
  unfold unmapPort; split <;> simp_all
@[simp] theorem unmapPort_bytesTransferred (s : State) :
    (unmapPort s).bytesTransferred = s.bytesTransferred := by
  unfold unmapPort; split <;> simp_all
@[simp] theorem unmapPort_totalSize (s : State) :
    (unmapPort s).totalSize = s.totalSize := by
  unfold unmapPort; split <;> simp_all
@[simp] theorem unmapPort_base (s : State) :
    (unmapPort s).base = s.base := by
  unfold unmapPort; split <;> simp_all
@[simp] theorem unmapPort_chunkSize (s : State) :
    (unmapPort s).chunkSize = s.chunkSize := by
  unfold unmapPort; split <;> simp_all
@[simp] theorem unmapPort_st (s : State) :
    (unmapPort s).st = s.st := by
  unfold unmapPort; split <;> simp_all
@[simp] theorem unmapPort_seq (s : State) :
    (unmapPort s).seq = s.seq := by
  unfold unmapPort; split <;> simp_all
@[simp] theorem unmapPort_pollCount (s : State) :
    (unmapPort s).pollCount = s.pollCount := by
  unfold unmapPort; split <;> simp_all
@[simp] theorem unmapPort_lastStatus (s : State) :
    (unmapPort s).lastStatus = s.lastStatus := by
  unfold unmapPort; split <;> simp_all
@[simp] theorem unmapPort_outcome (s : State) :
    (unmapPort s).outcome = s.outcome := by
  unfold unmapPort; split <;> simp_all
@[simp] theorem unmapPort_warnHdr (s : State) :
    (unmapPort s).warnHdr = s.warnHdr := by
  unfold unmapPort; split <;> simp_all
@[simp] theorem unmapPort_warnLen (s : State) :
    (unmapPort s).warnLen = s.warnLen := by
  unfold unmapPort; split <;> simp_all
@[simp] theorem unmapPort_respHeader (s : State) :
    (unmapPort s).respHeader = s.respHeader := by
  unfold unmapPort; split <;> simp_all
@[simp] theorem unmapPort_respLength (s : State) :
    (unmapPort s).respLength = s.respLength := by
  unfold unmapPort; split <;> simp_all
@[simp] theorem unmapPort_respNext (s : State) :
    (unmapPort s).respNext = s.respNext := by
  unfold unmapPort; split <;> simp_all
@[simp] theorem unmapPort_respFlags (s : State) :
    (unmapPort s).respFlags = s.respFlags := by
  unfold unmapPort; split <;> simp_all
@[simp] theorem unmapPort_mapped (s : State) :
    (unmapPort s).mapped = false := by
  unfold unmapPort; split <;> simp_all
@[simp] theorem unmapPort_trace (s : State) :
    (unmapPort s).trace = if s.mapped then s.trace ++ [.unmap] else s.trace := by
  unfold unmapPort; split <;> simp_all
@[simp] theorem unmapPort_image (s : State) :
    (unmapPort s).image = s.image := by
  unfold unmapPort; split <;> simp_all
@[simp] theorem unmapPort_mapIn (s : State) :
    (unmapPort s).mapIn = s.mapIn := by
  unfold unmapPort; split <;> simp_all
@[simp] theorem unmapPort_statusIn (s : State) :
    (unmapPort s).statusIn = s.statusIn := by
  unfold unmapPort; split <;> simp_all
@[simp] theorem unmapPort_rdataIn (s : State) :
    (unmapPort s).rdataIn = s.rdataIn := by
  unfold unmapPort; split <;> simp_all
@[simp] theorem unmapPort_hostIn (s : State) :
    (unmapPort s).hostIn = s.hostIn := by
  unfold unmapPort; split <;> simp_all
@[simp] theorem unmapPort_resetIn (s : State) :
    (unmapPort s).resetIn = s.resetIn := by
  unfold unmapPort; split <;> simp_all
@[simp] theorem unmapPort_draws (s : State) :
    (unmapPort s).draws = s.draws := by
  unfold unmapPort; split <;> simp_all

end Sys2Proof.Machine
end

