-- ==== Sys2Proof/Laws/Ops.lean ====
section
/-! SUPPORT. For each shared operation, once, everything it can do: when it answers a next state and which. -/

namespace Sys2Proof.Machine

@[simp] theorem andThen_next (s : State) (f : State → Res) : andThen (.next s) f = f s := rfl
@[simp] theorem andThen_fault (e : Fault) (f : State → Res) : andThen (.fault e) f = .fault e := rfl
@[simp] theorem andThen_refused (e : Refusal) (f : State → Res) : andThen (.refused e) f = .refused e := rfl

/-- A chain answers a next state exactly where both its parts do. -/
theorem andThen_eq_next {r : Res} {f : State → Res} {t : State} :
    andThen r f = .next t ↔ ∃ s, r = .next s ∧ f s = .next t := by
  cases r <;> simp [andThen]

/-! ### Ports -/

theorem wrPort_mapped {r : Reg} {v : Word} {s : State} (h : s.mapped = true) :
    wrPort r v s = .next (s.emit (.wr r (regAddr s.base r) v)) := by
  simp [wrPort, h]

/-- A write answers a next state exactly while the window is held, and records one event. -/
theorem wrPort_eq_next {r : Reg} {v : Word} {s t : State} :
    wrPort r v s = .next t ↔ s.mapped = true ∧ t = s.emit (.wr r (regAddr s.base r) v) := by
  unfold wrPort
  cases s.mapped with
  | false => simp
  | true => simpa using eq_comm

/-- What a Status read leaves: the answer is consumed, kept in `lastStatus` and recorded. -/
def afterStatusRead (s : State) : State :=
  { (afterStatusAnswer s).emit (.rd .status (regAddr s.base .status) (statusAnswer s)) with lastStatus := statusAnswer s }

theorem rdStatusPort_mapped {s : State} (h : s.mapped = true) : rdStatusPort s = .next (afterStatusRead s) := by
  simp [rdStatusPort, afterStatusRead, h]

/-- A Status read answers a next state exactly while the window is held. -/
theorem rdStatusPort_eq_next {s t : State} :
    rdStatusPort s = .next t ↔ s.mapped = true ∧ t = afterStatusRead s := by
  unfold rdStatusPort
  cases s.mapped with
  | false => simp
  | true => simpa [afterStatusRead] using eq_comm

/-- The same state, field by field. -/
theorem afterStatusRead_eq (s : State) : afterStatusRead s = { s with
    statusIn := s.statusIn.tail, draws := if s.statusIn = [] then s.draws + 1 else s.draws
    lastStatus := statusAnswer s
    trace := s.trace ++ [.rd .status (regAddr s.base .status) (statusAnswer s)] } := by
  unfold afterStatusRead afterStatusAnswer State.emit
  split <;> simp_all

/-- What a Read-data read leaves: the answer is consumed, latched and recorded. -/
def afterRdataRead (l : Option Latch) (s : State) : State :=
  ((afterRdataAnswer s).emit (.rd .rdata (regAddr s.base .rdata) (rdataAnswer s))).setLatch? l (rdataAnswer s)

theorem rdRdataPort_mapped {l : Option Latch} {s : State} (h : s.mapped = true) :
    rdRdataPort l s = .next (afterRdataRead l s) := by
  simp [rdRdataPort, afterRdataRead, h]

/-- A Read-data read answers a next state exactly while the window is held. -/
theorem rdRdataPort_eq_next {l : Option Latch} {s t : State} :
    rdRdataPort l s = .next t ↔ s.mapped = true ∧ t = afterRdataRead l s := by
  unfold rdRdataPort
  cases s.mapped with
  | false => simp
  | true => simpa [afterRdataRead] using eq_comm

/-- The same state, field by field. -/
theorem afterRdataRead_eq (l : Option Latch) (s : State) : afterRdataRead l s = { s with
    rdataIn := s.rdataIn.tail, draws := if s.rdataIn = [] then s.draws + 1 else s.draws
    respHeader := if l = some .header then rdataAnswer s else s.respHeader
    respLength := if l = some .length then rdataAnswer s else s.respLength
    respNext := if l = some .next then rdataAnswer s else s.respNext
    respFlags := if l = some .flags then rdataAnswer s else s.respFlags
    trace := s.trace ++ [.rd .rdata (regAddr s.base .rdata) (rdataAnswer s)] } := by
  have h : afterRdataAnswer s = { s with
      rdataIn := s.rdataIn.tail, draws := if s.rdataIn = [] then s.draws + 1 else s.draws } := by
    unfold afterRdataAnswer
    split <;> simp_all
  unfold afterRdataRead
  rw [h]
  cases l with
  | none => rfl
  | some l => cases l <;> rfl

/-- What a fetch inside the image leaves. -/
theorem imgPort_inBounds {a : Word} {s : State} (h : imageInBounds s.totalSize a = true) :
    imgPort a s = .next (s.emit (.img a (Memory.readDword s.image a.toNat))) := by
  simp [imgPort, h]

/-- A fetch answers a next state exactly inside the image. -/
theorem imgPort_eq_next {a : Word} {s t : State} :
    imgPort a s = .next t ↔
      imageInBounds s.totalSize a = true ∧ t = s.emit (.img a (Memory.readDword s.image a.toNat)) := by
  unfold imgPort
  cases imageInBounds s.totalSize a with
  | false => simp
  | true => simpa using eq_comm

/-- What `MAP` leaves, field by field. -/
theorem mapPort_eq (s : State) : mapPort s = { s with
    mapIn := s.mapIn.tail, draws := if s.mapIn = [] then s.draws + 1 else s.draws
    mapped := if mapAnswer s = .ok then true else s.mapped
    trace := s.trace ++ [.map s.base (mapAnswer s)] } := by
  have h : afterMapAnswer s = { s with
      mapIn := s.mapIn.tail, draws := if s.mapIn = [] then s.draws + 1 else s.draws } := by
    unfold afterMapAnswer
    split <;> simp_all
  unfold mapPort
  rw [h]
  rfl

/-- The finishing step, field by field. -/
theorem finish_eq (s : State) : finish s = { s with
    mapped := false
    trace := s.trace ++ (if s.mapped then [.unmap] else [])
      ++ [.done (decide (s.outcome = .ok)) s.outcome s.warnHdr s.warnLen]
    st := .idle, seq := 0#11 } := by
  unfold finish donePort unmapPort State.goto State.emit
  cases h : s.mapped <;> simp [h]

/-! ### The wait and the response -/

/-- What one poll leaves: the tick counted and recorded, then the read. -/
theorem pollOnce_eq_next {s t : State} :
    pollOnce s = .next t ↔ s.mapped = true ∧ t = afterStatusRead (tickPort s) := by
  unfold pollOnce
  rw [rdStatusPort_eq_next, tickPort_mapped]

/-- A read-acknowledge answers a next state exactly while the window is held: the read, then the write of 0. -/
theorem rdackPort_eq_next {l : Option Latch} {s t : State} :
    rdackPort l s = .next t ↔ s.mapped = true
      ∧ t = (afterRdataRead l s).emit (.wr .rdata (regAddr s.base .rdata) 0#32) := by
  unfold rdackPort
  rw [andThen_eq_next]
  constructor
  · rintro ⟨u, hu, ht⟩
    obtain ⟨hm, rfl⟩ := rdRdataPort_eq_next.1 hu
    obtain ⟨-, rfl⟩ := wrPort_eq_next.1 ht
    exact ⟨hm, by rw [afterRdataRead_eq]⟩
  · rintro ⟨hm, rfl⟩
    refine ⟨_, rdRdataPort_mapped hm, ?_⟩
    rw [wrPort_mapped (by rw [afterRdataRead_eq]; exact hm), afterRdataRead_eq]

/-- A payload pair answers a next state exactly inside the image with the window held. -/
theorem payloadDword_eq_next {i : Nat} {s t : State} :
    payloadDword i s = .next t ↔ imageInBounds s.totalSize (payloadAddr s.offset i) = true ∧ s.mapped = true
      ∧ t = (s.emit (.img (payloadAddr s.offset i) (Memory.readDword s.image (payloadAddr s.offset i).toNat))).emit
          (.wr .wdata (regAddr s.base .wdata) (Memory.readDword s.image (payloadAddr s.offset i).toNat)) := by
  unfold payloadDword
  rw [andThen_eq_next]
  constructor
  · rintro ⟨u, hu, ht⟩
    obtain ⟨hb, rfl⟩ := imgPort_eq_next.1 hu
    obtain ⟨hm, rfl⟩ := wrPort_eq_next.1 ht
    exact ⟨hb, hm, rfl⟩
  · rintro ⟨hb, hm, rfl⟩
    exact ⟨_, imgPort_inBounds hb, wrPort_mapped hm⟩

/-! ### The host interface -/

/-- `START` answers a next state exactly under its premises. -/
theorem execStart_eq_next {b : Addr} {t : Word} {s u : State} :
    execStart b t s = .next u ↔ startPremiseBroken b t s = none ∧ u = acceptStart b t s := by
  unfold execStart
  cases startPremiseBroken b t s <;> simp [eq_comm]

/-- No premise is broken exactly where all hold (R161). -/
theorem startPremiseBroken_eq_none {b : Addr} {t : Word} {s : State} :
    startPremiseBroken b t s = none ↔
      s.st = .idle ∧ t.toNat ≤ Config.totalSizeMax ∧ t.toNat % 4 = 0 ∧ b.toNat % 4 = 0
        ∧ b.toNat + 15 < 2 ^ 64 ∧ Memory.wf s.image = true ∧ Memory.below t.toNat s.image = true := by
  unfold startPremiseBroken
  repeat' split
  all_goals simp_all
  all_goals omega

/-! ### Arithmetic -/

@[simp] theorem pollMax_eq : Config.pollMax = 10000 := rfl
@[simp] theorem headerDwords_eq : Config.headerDwords = 4 := rfl

/-- The chunk size is the minimum of R104 as a number: 13 bits hold it. -/
theorem chunkSizeOf_toNat (t o : Word) : (chunkSizeOf t o).toNat = min 4096 (t - o).toNat := by
  unfold chunkSizeOf Config.pageSize
  rw [BitVec.toNat_ofNat]
  exact Nat.mod_eq_of_lt (by omega)

/-- A chunk is never larger than a page. -/
theorem chunkSizeOf_le_page (t o : Word) : (chunkSizeOf t o).toNat ≤ 4096 := by
  rw [chunkSizeOf_toNat]
  omega

end Sys2Proof.Machine
end

