-- ==== Sys2Proof/Laws/Steps.lean ====
section
/-! SUPPORT. One inversion lemma per step rule: when the rule of a control state answers a next state, everything that state
can be. Invariants are derived from these, with no unfolding of a rule. -/

namespace Sys2Proof.Machine

/-- Idle rests, or accepts the waiting command under the premises of R161. -/
theorem execStIdle_cases {s t : State} (h : execStIdle s = .next t) :
    (s.hostIn = [] ∧ t = s)
    ∨ ∃ c cs, s.hostIn = c :: cs
      ∧ startPremiseBroken c.base c.totalSize { s with hostIn := cs, image := c.image } = none
      ∧ t = acceptStart c.base c.totalSize { s with hostIn := cs, image := c.image } := by
  unfold execStIdle at h
  split at h
  · exact .inl ⟨‹_›, by injection h with h; exact h.symm⟩
  · exact .inr ⟨_, _, ‹_›, execStart_eq_next.1 h⟩

/-- Init gets the window and goes to Aborting, or fails with Error. -/
theorem initStep_cases (s : State) :
    (mapAnswer s = .ok ∧ initStep s = (mapPort (clearRun s)).goto .aborting)
    ∨ (mapAnswer s = .fail ∧ initStep s = raiseFail .error (mapPort (clearRun s))) := by
  unfold initStep
  cases mapAnswer s <;> simp

/-- Aborting writes ABORT and goes to SendChunk. -/
theorem execStAborting_cases {s t : State} (h : execStAborting s = .next t) :
    s.mapped = true
    ∧ t = (s.emit (.wr .ctrl (regAddr s.base .ctrl) Config.ctrlAbortWord)).goto .sendChunk := by
  obtain ⟨u, hu, ht⟩ := andThen_eq_next.1 h
  obtain ⟨hm, rfl⟩ := wrPort_eq_next.1 hu
  injection ht with ht
  exact ⟨hm, ht.symm⟩

/-- The planning step fails over the budget, or sets the chunk and goes on. -/
theorem planChunk_cases (s : State) :
    (overBudget s.bytesTransferred (chunkSizeOf s.totalSize s.offset) s.totalSize = true
      ∧ planChunk s = raiseFail .timeout { s with chunkSize := chunkSizeOf s.totalSize s.offset })
    ∨ (overBudget s.bytesTransferred (chunkSizeOf s.totalSize s.offset) s.totalSize = false
      ∧ planChunk s = { s with chunkSize := chunkSizeOf s.totalSize s.offset, seq := 1#11 }) := by
  unfold planChunk
  cases hb : overBudget s.bytesTransferred (chunkSizeOf s.totalSize s.offset) s.totalSize <;> simp [hb]

/-- A sub-step answers a next state exactly where its operation does, one sub-step further. -/
theorem subStep_eq_next {r : Res} {t : State} : subStep r = .next t ↔ ∃ u, r = .next u ∧ t = u.advance := by
  unfold subStep
  rw [andThen_eq_next]
  constructor
  · rintro ⟨u, hu, ht⟩
    injection ht with ht
    exact ⟨u, hu, ht.symm⟩
  · rintro ⟨u, hu, rfl⟩
    exact ⟨u, hu, rfl⟩

/-- A sub-step of `ENCODE` writes one header word, sends one payload dword, or writes GO and starts the wait. -/
theorem sendSubStep_cases {s t : State} (h : sendSubStep s = .next t) :
    s.mapped = true ∧
    ((s.seq = 1#11 ∧ chunkIsDwords s.chunkSize = true
        ∧ t = (s.emit (.wr .wdata (regAddr s.base .wdata) s.cfg.headerConst)).advance)
    ∨ (s.seq = 2#11 ∧ t = (s.emit (.wr .wdata (regAddr s.base .wdata) (dwordLength s.chunkSize))).advance)
    ∨ (s.seq = 3#11 ∧ t = (s.emit (.wr .wdata (regAddr s.base .wdata) Config.cmdLoad)).advance)
    ∨ (s.seq = 4#11 ∧ t = (s.emit (.wr .wdata (regAddr s.base .wdata) 0#32)).advance)
    ∨ (s.seq ≠ 1#11 ∧ s.seq ≠ 2#11 ∧ s.seq ≠ 3#11 ∧ s.seq ≠ 4#11 ∧ s.seq.toNat < goSubStep s.chunkSize
        ∧ t = ((s.emit (.img (payloadAddr s.offset (s.seq.toNat - 5))
              (Memory.readDword s.image (payloadAddr s.offset (s.seq.toNat - 5)).toNat))).emit
            (.wr .wdata (regAddr s.base .wdata)
              (Memory.readDword s.image (payloadAddr s.offset (s.seq.toNat - 5)).toNat))).advance)
    ∨ (s.seq ≠ 1#11 ∧ s.seq ≠ 2#11 ∧ s.seq ≠ 3#11 ∧ s.seq ≠ 4#11 ∧ s.seq.toNat = goSubStep s.chunkSize
        ∧ t = enterWait (s.emit (.wr .ctrl (regAddr s.base .ctrl) Config.ctrlGoWord)))) := by
  unfold sendSubStep at h
  split at h
  · split at h
    · obtain ⟨u, hu, rfl⟩ := subStep_eq_next.1 h
      obtain ⟨hm, rfl⟩ := wrPort_eq_next.1 hu
      exact ⟨hm, .inl ⟨‹_›, ‹_›, rfl⟩⟩
    · cases h
  split at h
  · obtain ⟨u, hu, rfl⟩ := subStep_eq_next.1 h
    obtain ⟨hm, rfl⟩ := wrPort_eq_next.1 hu
    exact ⟨hm, .inr (.inl ⟨‹_›, rfl⟩)⟩
  split at h
  · obtain ⟨u, hu, rfl⟩ := subStep_eq_next.1 h
    obtain ⟨hm, rfl⟩ := wrPort_eq_next.1 hu
    exact ⟨hm, .inr (.inr (.inl ⟨‹_›, rfl⟩))⟩
  split at h
  · obtain ⟨u, hu, rfl⟩ := subStep_eq_next.1 h
    obtain ⟨hm, rfl⟩ := wrPort_eq_next.1 hu
    exact ⟨hm, .inr (.inr (.inr (.inl ⟨‹_›, rfl⟩)))⟩
  split at h
  · obtain ⟨u, hu, rfl⟩ := subStep_eq_next.1 h
    obtain ⟨-, hm, rfl⟩ := payloadDword_eq_next.1 hu
    exact ⟨hm, .inr (.inr (.inr (.inr (.inl ⟨‹_›, ‹_›, ‹_›, ‹_›, ‹_›, rfl⟩))))⟩
  split at h
  · obtain ⟨u, hu, ht⟩ := andThen_eq_next.1 h
    obtain ⟨hm, rfl⟩ := wrPort_eq_next.1 hu
    injection ht with ht
    exact ⟨hm, .inr (.inr (.inr (.inr (.inr ⟨‹_›, ‹_›, ‹_›, ‹_›, ‹_›, ht.symm⟩))))⟩
  · cases h

/-- SendChunk plans at `seq = 0` and issues `ENCODE` after. -/
theorem execStSendChunk_cases {s t : State} (h : execStSendChunk s = .next t) :
    (s.seq = 0#11 ∧ t = planChunk s) ∨ (s.seq ≠ 0#11 ∧ sendSubStep s = .next t) := by
  unfold execStSendChunk at h
  split at h
  · injection h with h
    exact .inl ⟨‹_›, h.symm⟩
  · exact .inr ⟨‹_›, h⟩

/-- What the end of a poll does: the wait goes on, ends Ready, or fails with the kind of its class. -/
theorem endPoll_cases (s : State) :
    (waitEnds s.lastStatus s = false ∧ classify s.lastStatus ≠ .ready ∧ endPoll s = s)
    ∨ (classify s.lastStatus = .ready ∧ endPoll s = sampledReady s)
    ∨ (waitEnds s.lastStatus s = true ∧ classify s.lastStatus = .error ∧ endPoll s = raiseFail .error s)
    ∨ (waitEnds s.lastStatus s = true ∧ classify s.lastStatus = .timeout ∧ endPoll s = raiseFail .timeout s) := by
  unfold endPoll sampledError sampledPending
  cases hc : classify s.lastStatus <;> cases hw : waitEnds s.lastStatus s <;> simp

/-- A sample of class Pending does not exit, so it ends the wait only as the last poll (R109). -/
theorem waitEnds_pending {s : State} (h : classify s.lastStatus = .timeout) (hw : waitEnds s.lastStatus s = true) :
    s.pollCount.toNat = Config.pollMax := by
  unfold classify at h
  split at h
  · cases h
  · split at h
    · cases h
    · exact of_decide_eq_true (by simpa [waitEnds, pollExit, *] using hw)

/-- A sample of class Ready ends the wait (R108). -/
theorem waitEnds_ready {w : Word} {s : State} (h : classify w = .ready) : waitEnds w s = true := by
  unfold classify at h
  split at h
  · cases h
  · split at h
    · simp_all [waitEnds, pollExit]
    · cases h

/-- WaitReady makes one poll and ends it. -/
theorem execStWaitReady_cases {s t : State} (h : execStWaitReady s = .next t) :
    s.mapped = true ∧ t = endPoll (afterStatusRead (tickPort s)) := by
  obtain ⟨u, hu, ht⟩ := andThen_eq_next.1 h
  obtain ⟨hm, rfl⟩ := pollOnce_eq_next.1 hu
  injection ht with ht
  exact ⟨hm, ht.symm⟩

/-- The end of a response fails, ends the run with Ok, or goes on with the next chunk. -/
theorem endResponse_cases (s : State) :
    (respErrorSet s.cfg s.respFlags = true ∧ endResponse s = raiseFail .error s)
    ∨ (respErrorSet s.cfg s.respFlags = false ∧ s.respNext = Config.terminalSentinel ∧ endResponse s = endOfImage s)
    ∨ (respErrorSet s.cfg s.respFlags = false ∧ s.respNext ≠ Config.terminalSentinel
        ∧ endResponse s = nextChunk s.respNext s) := by
  unfold endResponse responseOk
  cases respErrorSet s.cfg s.respFlags <;> by_cases hn : s.respNext = Config.terminalSentinel <;> simp [hn]

/-- ReadResponse reads at `seq = 2j`, acknowledges at `2j + 1`, and ends with the last acknowledge. -/
theorem execStReadResponse_cases {s t : State} (h : execStReadResponse s = .next t) :
    s.mapped = true ∧
    (((s.seq = 0#11 ∨ s.seq = 2#11 ∨ s.seq = 4#11 ∨ s.seq = 6#11)
        ∧ t = (checkEcho s.seq (afterRdataRead (latchOf s.seq) s)).advance)
    ∨ ((s.seq = 1#11 ∨ s.seq = 3#11 ∨ s.seq = 5#11)
        ∧ t = (s.emit (.wr .rdata (regAddr s.base .rdata) 0#32)).advance)
    ∨ (s.seq = 7#11 ∧ t = endResponse (s.emit (.wr .rdata (regAddr s.base .rdata) 0#32)))) := by
  unfold execStReadResponse at h
  split at h
  · obtain ⟨u, hu, ht⟩ := andThen_eq_next.1 h
    obtain ⟨hm, rfl⟩ := rdRdataPort_eq_next.1 hu
    injection ht with ht
    exact ⟨hm, .inl ⟨‹_›, ht.symm⟩⟩
  split at h
  · obtain ⟨u, hu, rfl⟩ := subStep_eq_next.1 h
    obtain ⟨hm, rfl⟩ := wrPort_eq_next.1 hu
    exact ⟨hm, .inr (.inl ⟨‹_›, rfl⟩)⟩
  split at h
  · obtain ⟨u, hu, ht⟩ := andThen_eq_next.1 h
    obtain ⟨hm, rfl⟩ := wrPort_eq_next.1 hu
    injection ht with ht
    exact ⟨hm, .inr (.inr ⟨‹_›, ht.symm⟩)⟩
  · cases h

/-- The echo check touches only the first two latches and the warnings. -/
theorem checkEcho_eq (q : BitVec 11) (s : State) : checkEcho q s = { s with
    warnHdr := s.warnHdr || (q == 0#11 && s.respHeader != s.cfg.headerConst)
    warnLen := s.warnLen || (q == 2#11 && s.respLength != s.cfg.respLenExpected) } := by
  unfold checkEcho checkHeaderEcho checkLengthEcho
  by_cases h0 : q = 0#11
  · subst q
    simp
  · by_cases h2 : q = 2#11
    · subst q
      simp
    · have e0 : (q == 0#11) = false := by simp [h0]
      have e2 : (q == 2#11) = false := by simp [h2]
      rw [if_neg h0, if_neg h2, e0, e2, Bool.false_and, Bool.false_and, Bool.or_false, Bool.or_false]

/-! ### The loop of `STAGE` -/

/-- The loop of `STAGE` in at most `k` turns: no answer where it has not ended by then. -/
def stageTurns : Nat → State → Option Res
  | 0, _ => none
  | k + 1, s =>
    match transaction s with
    | .next t => if t.st = .sendChunk then stageTurns k t else some (.next (finish t))
    | .fault e => some (.fault e)
    | .refused e => some (.refused e)

/-- The loop answers exactly what some number of turns answers; it has no answer exactly where no number does. -/
theorem stageLoop_eq_some {s : State} {r : Res} : stageLoop s = some r ↔ ∃ k, stageTurns k s = some r := by
  constructor
  · refine stageLoop.partial_correctness (fun s r => ∃ k, stageTurns k s = some r) ?_ s r
    intro f ih s r h
    cases ht : transaction s with
    | next t =>
      rw [ht] at h
      by_cases hst : t.st = .sendChunk
      · obtain ⟨k, hk⟩ := ih t r (by simpa [hst] using h)
        exact ⟨k + 1, by simp [stageTurns, ht, hst, hk]⟩
      · exact ⟨1, by simpa [stageTurns, ht, hst] using h⟩
    | fault e => exact ⟨1, by simpa [stageTurns, ht] using h⟩
    | refused e => exact ⟨1, by simpa [stageTurns, ht] using h⟩
  · rintro ⟨k, h⟩
    induction k generalizing s with
    | zero => cases h
    | succ k ih =>
      rw [stageLoop]
      cases ht : transaction s with
      | next t => by_cases hst : t.st = .sendChunk <;> simp_all [stageTurns]
      | fault e => simpa [stageTurns, ht] using h
      | refused e => simpa [stageTurns, ht] using h

/-- `STAGE` after an accepted `START` and a granted window, once the loop has ended in some number of turns. -/
theorem stageRun_of_turns {s t : State} {r : Res} {k : Nat} (h1 : (initStep s).st ≠ .failed)
    (h2 : execStAborting (initStep s) = .next t) (h3 : stageTurns k t = some r) : stageRun s = r := by
  unfold stageRun
  rw [if_neg h1, h2, andThen_next, stageLoop_eq_some.2 ⟨k, h3⟩]
  rfl

end Sys2Proof.Machine
end

