-- ==== Sys2Proof/Laws/Monitor.lean ====
section
/-! SUPPORT. The protocol monitor event by event, its run over a longer trace, and the step as the rule of its control
state. -/

namespace Sys2Proof.Safety

open Sys2Proof.Machine

variable (c : Config) (b : Addr)

/-! ### The monitor -/

@[simp] theorem monRun_nil (m : Mon) : monRun c b m [] = some m := rfl

theorem monRun_cons (m : Mon) (e : Event) (es : List Event) :
    monRun c b m (e :: es) = (monStep c b m e).bind fun m' => monRun c b m' es := by
  rw [monRun]
  cases monStep c b m e <;> rfl

/-- The monitor over a trace and what follows it. -/
theorem monRun_append (m : Mon) (es fs : List Event) :
    monRun c b m (es ++ fs) = (monRun c b m es).bind fun m' => monRun c b m' fs := by
  induction es generalizing m with
  | nil => rfl
  | cons e es ih =>
    rw [List.cons_append, monRun_cons, monRun_cons]
    cases monStep c b m e with
    | none => rfl
    | some m' => exact ih m'

theorem monStep_start (b' : Addr) (t : Word) :
    monStep c b .fresh (.start b' t) = if b' = b then some .mapping else none := rfl
theorem monStep_map_ok (b' : Addr) :
    monStep c b .mapping (.map b' .ok) = if b' = b then some .aborting else none := rfl
theorem monStep_map_fail (b' : Addr) :
    monStep c b .mapping (.map b' .fail) = if b' = b then some .closing else none := rfl
theorem monStep_abort (a : Addr) (v : Word) : monStep c b .aborting (.wr .ctrl a v) =
    if a = regAddr b .ctrl ∧ v = 0x00000001#32 then some .between else none := rfl
theorem monStep_header (a : Addr) (v : Word) : monStep c b .between (.wr .wdata a v) =
    if a = regAddr b .wdata ∧ v = c.headerConst then some .length else none := rfl
theorem monStep_between_unmap : monStep c b .between .unmap = some .closing := rfl
theorem monStep_length (a : Addr) (v : Word) : monStep c b .length (.wr .wdata a v) =
    if a = regAddr b .wdata ∧ 4 ≤ v.toNat ∧ v.toNat ≤ 1028 then some (.command (v.toNat - 4)) else none := rfl
theorem monStep_command (n : Nat) (a : Addr) (v : Word) : monStep c b (.command n) (.wr .wdata a v) =
    if a = regAddr b .wdata ∧ v = 0x00000003#32 then some (.reserved n) else none := rfl
theorem monStep_reserved (n : Nat) (a : Addr) (v : Word) : monStep c b (.reserved n) (.wr .wdata a v) =
    if a = regAddr b .wdata ∧ v = 0x00000000#32 then some (.payload n) else none := rfl
theorem monStep_fetch (n : Nat) (a v : Word) :
    monStep c b (.payload (n + 1)) (.img a v) = some (.carry n v) := rfl
theorem monStep_carry (n : Nat) (u : Word) (a : Addr) (v : Word) : monStep c b (.carry n u) (.wr .wdata a v) =
    if a = regAddr b .wdata ∧ v = u then some (.payload n) else none := rfl
theorem monStep_go (a : Addr) (v : Word) : monStep c b (.payload 0) (.wr .ctrl a v) =
    if a = regAddr b .ctrl ∧ v = 0x80000000#32 then some .gone else none := rfl
theorem monStep_first_tick : monStep c b .gone .tick = some (.ticked 1) := rfl
theorem monStep_sample (k : Nat) (a : Addr) (w : Word) : monStep c b (.ticked k) (.rd .status a w) =
    if a = regAddr b .status then some (.sampled k w) else none := rfl
theorem monStep_next_tick (k : Nat) (w : Word) :
    monStep c b (.sampled k w) .tick = if waitOver c k w then none else some (.ticked (k + 1)) := rfl
theorem monStep_first_read (k : Nat) (w : Word) (a : Addr) (v : Word) :
    monStep c b (.sampled k w) (.rd .rdata a v) =
      if waitOver c k w ∧ classify w = .ready ∧ a = regAddr b .rdata then some (.unacked 0) else none := rfl
theorem monStep_sampled_unmap (k : Nat) (w : Word) : monStep c b (.sampled k w) .unmap =
    if waitOver c k w ∧ classify w ≠ .ready then some .closing else none := rfl
theorem monStep_ack (j : Nat) (a : Addr) (v : Word) : monStep c b (.unacked j) (.wr .rdata a v) =
    if a = regAddr b .rdata ∧ v = 0#32 then (if j = 3 then some .between else some (.acked (j + 1))) else none := rfl
theorem monStep_read (j : Nat) (a : Addr) (v : Word) : monStep c b (.acked j) (.rd .rdata a v) =
    if a = regAddr b .rdata then some (.unacked j) else none := rfl
theorem monStep_done (res : Bool) (diag : OutcomeCode) (wh wl : Bool) :
    monStep c b .closing (.done res diag wh wl) =
      if res = decide (diag = .ok) ∧ diag ≠ .none then some .ended else none := rfl

end Sys2Proof.Safety

namespace Sys2Proof.Machine

/-! ### The step -/

theorem step_of_reset {s : State} (h : s.resetIn = true) : step s = .next (hardReset s) := by
  unfold step
  rw [h]
  rfl

/-- With reset not asserted, the step is the rule of the control state. -/
theorem step_eq_rule {s : State} (h : s.resetIn = false) :
    step s = match s.st with
      | .idle => execStIdle s
      | .init => execStInit s
      | .aborting => execStAborting s
      | .sendChunk => execStSendChunk s
      | .waitReady => execStWaitReady s
      | .readResponse => execStReadResponse s
      | .done => execStDone s
      | .failed => execStFailed s := by
  unfold step fetch fetchByte decodeInstr
  rw [h]
  cases s.st <;> rfl

end Sys2Proof.Machine
end

