-- ==== Sys2Proof/Laws/PerInstr.lean ====
section
/-! SUPPORT. One family of statements for all instructions, by constructor: the encoder fills the slot of the instruction
exactly (spec/30_encoding.md R50 to R61: the width of each format). -/

namespace Sys2Proof.Laws.EncodedSize

/-- The encoder writes as many bytes as the instruction's slot holds. -/
def Statement (i : Instr) : Prop := ∀ c : Config, (encodeInstr c i).length = slotBytes (slotOf i)

theorem wrCtrl (v : Word) : Statement (.wrCtrl v) := fun _ => rfl
theorem rdStatus : Statement .rdStatus := fun _ => rfl
theorem wrWdata (v : Word) : Statement (.wrWdata v) := fun _ => rfl
theorem rdRdata : Statement .rdRdata := fun _ => rfl
theorem wrRdata : Statement .wrRdata := fun _ => rfl
theorem abort : Statement .abort := fun _ => rfl
theorem go : Statement .go := fun _ => rfl
theorem statusError (w : Word) : Statement (.statusError w) := fun _ => rfl
theorem statusReady (w : Word) : Statement (.statusReady w) := fun _ => rfl
theorem statusPending (w : Word) : Statement (.statusPending w) := fun _ => rfl
theorem reqHeader : Statement .reqHeader := fun _ => rfl
theorem reqDwordLength : Statement .reqDwordLength := fun _ => rfl
theorem reqCommandLoad : Statement .reqCommandLoad := fun _ => rfl
theorem reqReserved : Statement .reqReserved := fun _ => rfl
theorem reqPayload (i : BitVec 10) : Statement (.reqPayload i) := fun _ => rfl
theorem respHeaderEcho (v : Word) : Statement (.respHeaderEcho v) := fun _ => rfl
theorem respLengthEcho (v : Word) : Statement (.respLengthEcho v) := fun _ => rfl
theorem respNextOffset (v : Word) : Statement (.respNextOffset v) := fun _ => rfl
theorem respNextOffsetSentinel : Statement .respNextOffsetSentinel := fun _ => rfl
theorem flagsRespError (w : Word) : Statement (.flagsRespError w) := fun _ => rfl
theorem flagsRespOk (w : Word) : Statement (.flagsRespOk w) := fun _ => rfl
theorem start (base : Addr) (totalSize : Word) : Statement (.start base totalSize) := fun _ => rfl
theorem done : Statement .done := fun _ => rfl
theorem map : Statement .map := fun _ => rfl
theorem unmap : Statement .unmap := fun _ => rfl
theorem img (a : Word) : Statement (.img a) := fun _ => rfl
theorem tick : Statement .tick := fun _ => rfl
theorem stIdle : Statement .stIdle := fun _ => rfl
theorem stInit : Statement .stInit := fun _ => rfl
theorem stAborting : Statement .stAborting := fun _ => rfl
theorem stSendChunk : Statement .stSendChunk := fun _ => rfl
theorem stWaitReady : Statement .stWaitReady := fun _ => rfl
theorem stReadResponse : Statement .stReadResponse := fun _ => rfl
theorem stDone : Statement .stDone := fun _ => rfl
theorem stFailed : Statement .stFailed := fun _ => rfl
theorem outcomeNone : Statement .outcomeNone := fun _ => rfl
theorem outcomeOk : Statement .outcomeOk := fun _ => rfl
theorem outcomeTimeout : Statement .outcomeTimeout := fun _ => rfl
theorem outcomeError : Statement .outcomeError := fun _ => rfl
theorem rdack : Statement .rdack := fun _ => rfl
theorem encode : Statement .encode := fun _ => rfl
theorem poll : Statement .poll := fun _ => rfl
theorem decode : Statement .decode := fun _ => rfl
theorem stage (base : Addr) (totalSize : Word) : Statement (.stage base totalSize) := fun _ => rfl

end Sys2Proof.Laws.EncodedSize
end

