-- ==== Sys2Proof/Tests/Slice0.lean ====
section
/-! SUPPORT. The model's own tests. Expected results are the spec's: the encodings of spec/30_encoding.md R51 to R61 written
out bit by bit, the derived vectors of spec/95_test_vectors.md section 2 (V-…), the first lines of its program P1, and the
rules named. After them, the witnesses: for every statement with hypotheses, concrete values that meet them. -/

namespace Sys2Proof.Tests

open Sys2Proof.Machine Sys2Proof.Safety

/-! ### Well-formedness: each check refuses a term and admits one -/

theorem test_wf_control_word :
    (Instr.wrCtrl 0x80000001#32).wf .reference = false ∧ (Instr.wrCtrl 0x80000000#32).wf .reference = true := by decide

theorem test_wf_status_error :
    (Instr.statusError 0x80000000#32).wf .reference = false
    ∧ (Instr.statusError 0x80000004#32).wf .reference = true := by decide

theorem test_wf_status_ready :
    (Instr.statusReady 0x80000004#32).wf .reference = false ∧ (Instr.statusReady 0x00000000#32).wf .reference = false
    ∧ (Instr.statusReady 0xFFFFFFFB#32).wf .reference = true := by decide

theorem test_wf_status_pending :
    (Instr.statusPending 0x80000000#32).wf .reference = false ∧ (Instr.statusPending 0x00000004#32).wf .reference = false
    ∧ (Instr.statusPending 0x7FFFFFFB#32).wf .reference = true := by decide

theorem test_wf_next_offset :
    (Instr.respNextOffset 0xFFFFFFFF#32).wf .reference = false
    ∧ (Instr.respNextOffset 0xFFFFFFFE#32).wf .reference = true := by decide

theorem test_wf_flags :
    (Instr.flagsRespError 0x00000003#32).wf .reference = false ∧ (Instr.flagsRespOk 0x00000005#32).wf .reference = false
    ∧ (Instr.flagsRespError 0x00000005#32).wf .reference = true
    ∧ (Instr.flagsRespOk 0x00000003#32).wf .reference = true := by decide

/-! ### Decoding: words written out from the spec's encodings -/

/-- R51: `offset[3:0]`, then 32 data bits. -/
theorem test_decode_bus_writes :
    decodeInstr .reference .mmioWrite [0b00000000#8, 0b00000001#8, 0b00000000#8, 0b00000000#8, 0b00000000#8]
      = .ok (.wrCtrl 0x00000001#32)
    ∧ decodeInstr .reference .mmioWrite [0b00001000#8, 0b10000110#8, 0b10000000#8, 0b00001011#8, 0b00000000#8]
      = .ok (.wrWdata 0x000B8086#32)
    ∧ decodeInstr .reference .mmioWrite [0b00001100#8, 0b00000000#8, 0b00000000#8, 0b00000000#8, 0b00000000#8]
      = .ok .wrRdata := by decide

/-- R51. -/
theorem test_decode_bus_reads :
    decodeInstr .reference .mmioRead [0b00000100#8] = .ok .rdStatus
    ∧ decodeInstr .reference .mmioRead [0b00001100#8] = .ok .rdRdata := by decide

/-- V-P4: the accesses that never occur. -/
theorem test_decode_rejects_other_accesses :
    decodeInstr .reference .mmioRead [0x0#8] = .reject .neverRead
    ∧ decodeInstr .reference .mmioRead [0x8#8] = .reject .neverRead
    ∧ decodeInstr .reference .mmioRead [0x10#8] = .reject .noSuchOffset
    ∧ decodeInstr .reference .mmioWrite [0x4#8, 0#8, 0#8, 0#8, 0#8] = .reject .neverWritten
    ∧ decodeInstr .reference .mmioWrite [0xC#8, 1#8, 0#8, 0#8, 0#8] = .reject .acknowledgeNotZero
    ∧ decodeInstr .reference .mmioWrite [0x0#8, 1#8, 0#8, 0#8, 0x80#8] = .reject .controlWord
    ∧ decodeInstr .reference .mmioWrite [0x8#8, 1#8] = .reject .wrongLength := by decide

/-- R52: GO is bit 31, ABORT bit 0, the rest zero. -/
theorem test_decode_control :
    decodeInstr .reference .control [0b00000001#8, 0#8, 0#8, 0b00000000#8] = .ok .abort
    ∧ decodeInstr .reference .control [0b00000000#8, 0#8, 0#8, 0b10000000#8] = .ok .go
    ∧ decodeInstr .reference .control [0b00000001#8, 0#8, 0#8, 0b10000000#8] = .reject .controlWord := by decide

/-- R53, V-W1: ERROR is bit 2, READY bit 31. -/
theorem test_decode_status :
    decodeInstr .reference .status [0b00000100#8, 0#8, 0#8, 0b10000000#8] = .ok (.statusError 0x80000004#32)
    ∧ decodeInstr .reference .status [0b11111011#8, 0xFF#8, 0xFF#8, 0b11111111#8] = .ok (.statusReady 0xFFFFFFFB#32)
    ∧ decodeInstr .reference .status [0b11111011#8, 0xFF#8, 0xFF#8, 0b01111111#8]
      = .ok (.statusPending 0x7FFFFFFB#32) := by decide

/-- R54: the request's dwords by their index. -/
theorem test_decode_request :
    decodeInstr .reference (.request 0) [0x86#8, 0x80#8, 0x0B#8, 0x00#8] = .ok .reqHeader
    ∧ decodeInstr .reference (.request 1) [0x04#8, 0x04#8, 0x00#8, 0x00#8] = .ok .reqDwordLength
    ∧ decodeInstr .reference (.request 2) [0b00000011#8, 0#8, 0#8, 0#8] = .ok .reqCommandLoad
    ∧ decodeInstr .reference (.request 3) [0#8, 0#8, 0#8, 0#8] = .ok .reqReserved
    ∧ decodeInstr .reference (.request 4) [0x11#8, 0x22#8, 0x33#8, 0x44#8] = .ok (.reqPayload 0#10)
    ∧ decodeInstr .reference (.request 1027) [0#8, 0#8, 0#8, 0#8] = .ok (.reqPayload 1023#10) := by decide

/-- R57: what a request never holds. -/
theorem test_decode_request_rejects :
    decodeInstr .reference (.request 0) [0#8, 0#8, 0#8, 0#8] = .reject .headerWord
    ∧ decodeInstr .reference (.request 2) [2#8, 0#8, 0#8, 0#8] = .reject .commandWord
    ∧ decodeInstr .reference (.request 3) [1#8, 0#8, 0#8, 0#8] = .reject .reservedWord
    ∧ decodeInstr .reference (.request 1028) [0#8, 0#8, 0#8, 0#8] = .reject .noSuchDword := by decide

/-- R55, R56: the response's dwords by their index; the reference ERROR flag is bit 2. -/
theorem test_decode_response :
    decodeInstr .reference (.response 0) [0x86#8, 0x80#8, 0x0B#8, 0x00#8] = .ok (.respHeaderEcho 0x000B8086#32)
    ∧ decodeInstr .reference (.response 1) [0x04#8, 0#8, 0#8, 0#8] = .ok (.respLengthEcho 4#32)
    ∧ decodeInstr .reference (.response 2) [0x00#8, 0x10#8, 0#8, 0#8] = .ok (.respNextOffset 0x1000#32)
    ∧ decodeInstr .reference (.response 2) [0xFF#8, 0xFF#8, 0xFF#8, 0xFF#8] = .ok .respNextOffsetSentinel
    ∧ decodeInstr .reference (.response 3) [0b00000101#8, 0#8, 0#8, 0#8] = .ok (.flagsRespError 5#32)
    ∧ decodeInstr .reference (.response 3) [0b00000010#8, 0#8, 0#8, 0#8] = .ok (.flagsRespOk 2#32)
    ∧ decodeInstr .reference (.response 4) [0#8, 0#8, 0#8, 0#8] = .reject .noSuchDword := by decide

/-- R61: `base` in 64 bits, then `totalSize` in 32. -/
theorem test_decode_host :
    decodeInstr .reference .hostCommand
      [0x00#8, 0x00#8, 0xD4#8, 0xFE#8, 0x01#8, 0#8, 0#8, 0#8, 0x10#8, 0x27#8, 0#8, 0#8]
      = .ok (.start 0x00000001FED40000#64 0x00002710#32)
    ∧ decodeInstr .reference (.composite .stage)
      [0x00#8, 0x00#8, 0xD4#8, 0xFE#8, 0x01#8, 0#8, 0#8, 0#8, 0x10#8, 0x27#8, 0#8, 0#8]
      = .ok (.stage 0x00000001FED40000#64 0x00002710#32)
    ∧ decodeInstr .reference .hostReport [0x03#8] = .ok .done := by decide

/-- The events and the composites have no bits (R62, R64); `IMG` carries its address. -/
theorem test_decode_events :
    decodeInstr .reference .mapEvent [] = .ok .map ∧ decodeInstr .reference .unmapEvent [] = .ok .unmap
    ∧ decodeInstr .reference .tickEvent [] = .ok .tick
    ∧ decodeInstr .reference .imgEvent [0x0C#8, 0x27#8, 0#8, 0#8] = .ok (.img 0x0000270C#32)
    ∧ decodeInstr .reference (.composite .rdack) [] = .ok .rdack
    ∧ decodeInstr .reference (.composite .encode) [] = .ok .encode
    ∧ decodeInstr .reference (.composite .poll) [] = .ok .poll
    ∧ decodeInstr .reference (.composite .decode) [] = .ok .decode := by decide

/-- R14: the state codes. -/
theorem test_decode_state :
    decodeInstr .reference .state [0b000#8] = .ok .stIdle ∧ decodeInstr .reference .state [0b001#8] = .ok .stInit
    ∧ decodeInstr .reference .state [0b010#8] = .ok .stAborting
    ∧ decodeInstr .reference .state [0b011#8] = .ok .stSendChunk
    ∧ decodeInstr .reference .state [0b100#8] = .ok .stWaitReady
    ∧ decodeInstr .reference .state [0b101#8] = .ok .stReadResponse
    ∧ decodeInstr .reference .state [0b110#8] = .ok .stDone ∧ decodeInstr .reference .state [0b111#8] = .ok .stFailed
    ∧ decodeInstr .reference .state [0b1000#8] = .reject .noSuchCode := by decide

/-- R16: the outcome codes. -/
theorem test_decode_outcome :
    decodeInstr .reference .hostDiag [0b00#8] = .ok .outcomeNone ∧ decodeInstr .reference .hostDiag [0b01#8] = .ok .outcomeOk
    ∧ decodeInstr .reference .hostDiag [0b10#8] = .ok .outcomeTimeout
    ∧ decodeInstr .reference .hostDiag [0b11#8] = .ok .outcomeError
    ∧ decodeInstr .reference .hostDiag [0b100#8] = .reject .noSuchCode := by decide

/-- Table words without their place, in the order of log entry 9. -/
theorem test_decode_table_words :
    decodeTableWord 8 0x4 = some .stWaitReady ∧ decodeTableWord 8 0x8 = some (.wrWdata 0#32)
    ∧ decodeTableWord 8 0xC = some .rdRdata ∧ decodeTableWord 32 0x80000000 = some .go
    ∧ decodeTableWord 32 0x4 = some (.statusError 4#32) ∧ decodeTableWord 32 0x000B8086 = some .reqHeader
    ∧ decodeTableWord 96 (0xFED40000 + 8 * 2 ^ 64) = some (.start 0xFED40000#64 8#32)
    ∧ decodeTableWord 104 0 = none := by decide

/-! ### One step each -/

/-- The window of the vectors, held, with the image `11 22 33 44 55 66 77 88` (V-E4, P1). -/
def held : State :=
  { State.reset with
    base := 0x00000000FED40000#64, totalSize := 8#32, chunkSize := 8#13, mapped := true
    image := Memory.ofBytes 0 [0x11#8, 0x22#8, 0x33#8, 0x44#8, 0x55#8, 0x66#8, 0x77#8, 0x88#8] }

/-- The same in a control state. -/
def at' (t : St) (q : BitVec 11) : State := { held with st := t, seq := q }

/-- V-P1, V-P3. -/
theorem test_wrCtrl :
    exec (.wrCtrl 1#32) held = .next { held with trace := [.wr .ctrl 0x00000000FED40000#64 1#32] } := rfl

theorem test_abort :
    exec .abort held = .next { held with trace := [.wr .ctrl 0x00000000FED40000#64 0x00000001#32] } := rfl

theorem test_go :
    exec .go held = .next { held with trace := [.wr .ctrl 0x00000000FED40000#64 0x80000000#32] } := rfl

/-- V-P1. -/
theorem test_rdStatus :
    exec .rdStatus { held with statusIn := [0x80000004#32, 1#32] } = .next { held with
      statusIn := [1#32], lastStatus := 0x80000004#32
      trace := [.rd .status 0x00000000FED40004#64 0x80000004#32] } := rfl

/-- V-P1 at the greatest admitted base. -/
theorem test_wrWdata :
    exec (.wrWdata 0xA5A5A5A5#32) { held with base := 0xFFFFFFFFFFFFFFF0#64 } = .next { held with
      base := 0xFFFFFFFFFFFFFFF0#64, trace := [.wr .wdata 0xFFFFFFFFFFFFFFF8#64 0xA5A5A5A5#32] } := rfl

/-- R91: at `seq = 4` the read fills the third latch. -/
theorem test_rdRdata :
    exec .rdRdata { at' .readResponse 4#11 with rdataIn := [0x1000#32] } = .next { at' .readResponse 4#11 with
      respNext := 0x1000#32, trace := [.rd .rdata 0x00000000FED4000C#64 0x1000#32] } := rfl

theorem test_wrRdata :
    exec .wrRdata held = .next { held with trace := [.wr .rdata 0x00000000FED4000C#64 0#32] } := rfl

/-- V-P2: the acknowledge is written whatever was read. -/
theorem test_rdack :
    exec .rdack { at' .readResponse 1#11 with rdataIn := [0x00000000#32] } = .next { at' .readResponse 1#11 with
      trace := [.rd .rdata 0x00000000FED4000C#64 0#32, .wr .rdata 0x00000000FED4000C#64 0#32] } := rfl

theorem test_access_without_window : exec .rdStatus State.reset = .fault .windowNotMapped := rfl

/-- V-E3: little-endian, unaligned allowed. -/
theorem test_img :
    exec (.img 1#32) { held with image := Memory.ofBytes 0 [0#8, 1#8, 2#8, 3#8, 4#8, 5#8, 6#8, 7#8] } = .next { held with
      image := Memory.ofBytes 0 [0#8, 1#8, 2#8, 3#8, 4#8, 5#8, 6#8, 7#8]
      trace := [.img 1#32 0x04030201#32] } := rfl

/-- V-E3: `5 + 3 = 8 ≥ 8`. -/
theorem test_img_out_of_bounds : exec (.img 5#32) held = .fault .imageOutOfBounds := rfl

/-- P1, second line. -/
theorem test_map :
    exec .map { held with mapped := false, mapIn := [.ok] } = .next { held with
      trace := [.map 0x00000000FED40000#64 .ok] } := rfl

theorem test_unmap : exec .unmap held = .next { held with mapped := false, trace := [.unmap] } := rfl

theorem test_tick :
    exec .tick { at' .waitReady 0#11 with pollCount := 9999#14 } = .next { at' .waitReady 0#11 with
      pollCount := 10000#14, trace := [.tick] } := rfl

/-- V-E1. -/
theorem test_header_const :
    Config.reference.headerConst = 0x000B8086#32
    ∧ { Config.reference with vendorId := 0x1234#16, objectType := 0xABCD#16 }.headerConst = 0xABCD1234#32 := by decide

/-- V-E2. -/
theorem test_length_words :
    dwordLength 0#13 = 0x00000004#32 ∧ dwordLength 100#13 = 0x0000001D#32 ∧ dwordLength 1808#13 = 0x000001C8#32
    ∧ dwordLength 4092#13 = 0x00000403#32 ∧ dwordLength 4096#13 = 0x00000404#32 := by decide

theorem test_reqDwordLength :
    exec .reqDwordLength held = .next { held with trace := [.wr .wdata 0x00000000FED40008#64 6#32] } := rfl

theorem test_reqPayload :
    exec (.reqPayload 1#10) held = .next { held with
      trace := [.img 4#32 0x88776655#32, .wr .wdata 0x00000000FED40008#64 0x88776655#32] } := rfl

/-- V-E4. -/
theorem test_encode :
    exec .encode held = .next { held with trace := [
      .wr .wdata 0x00000000FED40008#64 0x000B8086#32, .wr .wdata 0x00000000FED40008#64 0x00000006#32,
      .wr .wdata 0x00000000FED40008#64 0x00000003#32, .wr .wdata 0x00000000FED40008#64 0x00000000#32,
      .img 0x00000000#32 0x44332211#32, .wr .wdata 0x00000000FED40008#64 0x44332211#32,
      .img 0x00000004#32 0x88776655#32, .wr .wdata 0x00000000FED40008#64 0x88776655#32,
      .wr .ctrl 0x00000000FED40000#64 0x80000000#32] } := rfl

/-- V-E8. -/
theorem test_encode_six_bytes : exec .encode { held with chunkSize := 6#13 } = .fault .chunkNotDwordMultiple := rfl

/-- V-W1: class and exit, with `POLL_EXIT_ON_ERROR` true and false. -/
theorem test_classify :
    classify 0x80000004#32 = .error ∧ classify 0xFFFFFFFB#32 = .ready ∧ classify 0x40000000#32 = .timeout
    ∧ pollExit .reference 0x00000004#32 = true
    ∧ pollExit { Config.reference with pollExitOnError := false } 0x00000004#32 = false
    ∧ pollExit { Config.reference with pollExitOnError := false } 0x80000004#32 = true
    ∧ pollExit .reference 0x7FFFFFFB#32 = false := by decide

/-- V-W2, fifth row: at the 10000th sample a pending word is Timeout. -/
theorem test_statusPending :
    exec (.statusPending 0#32) { at' .waitReady 0#11 with pollCount := 10000#14 } = .next { at' .failed 0#11 with
      pollCount := 10000#14, outcome := .timeout } := rfl

theorem test_statusReady :
    exec (.statusReady 0x80000000#32) (at' .waitReady 0#11) = .next { at' .readResponse 0#11 with
      bytesTransferred := 8#32 } := rfl

/-- V-W3: with `POLL_EXIT_ON_ERROR = false` a lone ERROR does not end the wait. -/
theorem test_statusError :
    exec (.statusError 4#32) { at' .waitReady 0#11 with cfg := { Config.reference with pollExitOnError := false } }
      = .next { at' .waitReady 0#11 with cfg := { Config.reference with pollExitOnError := false } } := rfl

/-- V-W2, second row. -/
theorem test_poll :
    exec .poll { at' .waitReady 0#11 with pollCount := 7#14, statusIn := [0#32, 0#32, 0x80000000#32, 1#32] } = .next {
      at' .waitReady 0#11 with
      pollCount := 3#14, lastStatus := 0x80000000#32, statusIn := [1#32]
      trace := [.tick, .rd .status 0x00000000FED40004#64 0#32, .tick, .rd .status 0x00000000FED40004#64 0#32,
        .tick, .rd .status 0x00000000FED40004#64 0x80000000#32] } := rfl

/-- V-D1, eighth row. -/
theorem test_respHeaderEcho :
    exec (.respHeaderEcho 0#32) held = .next { held with warnHdr := true } := rfl

/-- V-D1, ninth row. -/
theorem test_respLengthEcho :
    exec (.respLengthEcho 0x404#32) held = .next { held with respLength := 0x404#32, warnLen := true } := rfl

theorem test_respNextOffset :
    exec (.respNextOffset 0x1000#32) (at' .readResponse 7#11) = .next { at' .sendChunk 0#11 with
      offset := 0x1000#32, respNext := 0x1000#32 } := rfl

/-- V-D1, fourth row: the error wins over the sentinel, and `offset` stays. -/
theorem test_flagsRespError :
    exec (.flagsRespError 4#32) { at' .readResponse 7#11 with respNext := 0xFFFFFFFF#32 } = .next { at' .failed 0#11 with
      respNext := 0xFFFFFFFF#32, respFlags := 4#32, outcome := .error } := rfl

/-- V-D1, sixth row: SUCCESS clear is not an error. -/
theorem test_flagsRespOk :
    exec (.flagsRespOk 0#32) { at' .readResponse 7#11 with respNext := 0xFFFFFFFF#32 } = .next { at' .done 0#11 with
      respNext := 0xFFFFFFFF#32, offset := 0xFFFFFFFF#32, outcome := .ok } := rfl

/-- V-D1, last row: eight accesses, both warnings. -/
theorem test_decode :
    exec .decode { at' .readResponse 0#11 with rdataIn := [0#32, 0#32, 0#32, 0#32] } = .next { at' .readResponse 0#11 with
      warnHdr := true, warnLen := true
      trace := [.rd .rdata 0x00000000FED4000C#64 0#32, .wr .rdata 0x00000000FED4000C#64 0#32,
        .rd .rdata 0x00000000FED4000C#64 0#32, .wr .rdata 0x00000000FED4000C#64 0#32,
        .rd .rdata 0x00000000FED4000C#64 0#32, .wr .rdata 0x00000000FED4000C#64 0#32,
        .rd .rdata 0x00000000FED4000C#64 0#32, .wr .rdata 0x00000000FED4000C#64 0#32] } := rfl

/-- V-C9: admitted, and refused. -/
theorem test_start :
    exec (.start 0xFED40000#64 0x7FFFFFFC#32) State.reset = .next { State.reset with
      base := 0xFED40000#64, totalSize := 0x7FFFFFFC#32, st := .init
      trace := [.start 0xFED40000#64 0x7FFFFFFC#32] } := rfl

theorem test_start_refused :
    exec (.start 0xFED40000#64 0x80000000#32) State.reset = .refused .startSizeTooLarge
    ∧ exec (.start 0xFED40000#64 6#32) State.reset = .refused .startSizeNotDwords
    ∧ exec (.start 0xFED40002#64 8#32) State.reset = .refused .startBase
    ∧ exec (.start 0xFFFFFFFFFFFFFFF4#64 8#32) State.reset = .refused .startBase
    ∧ exec (.start 0xFED40000#64 4#32) { held with st := .idle } = .refused .startImage
    ∧ exec (.start 0xFED40000#64 8#32) (at' .waitReady 0#11) = .refused .startNotIdle := ⟨rfl, rfl, rfl, rfl, rfl, rfl⟩

theorem test_done :
    exec .done { held with outcome := .timeout, warnHdr := true } = .next { held with
      outcome := .timeout, warnHdr := true, trace := [.done false .timeout true false] } := rfl

/-- R101, R147. -/
theorem test_stIdle :
    exec .stIdle { State.reset with hostIn := [⟨0xFED40000#64, 4#32, [(0, 1#8)]⟩] } = .next { State.reset with
      base := 0xFED40000#64, totalSize := 4#32, image := [(0, 1#8)], st := .init
      trace := [.start 0xFED40000#64 4#32] } := rfl

/-- P6: the mapping fails. -/
theorem test_stInit :
    exec .stInit { at' .init 0#11 with mapped := false, mapIn := [.fail], warnHdr := true } = .next { at' .failed 0#11 with
      mapped := false, outcome := .error, trace := [.map 0xFED40000#64 .fail] } := rfl

/-- P1, third line. -/
theorem test_stAborting :
    exec .stAborting (at' .aborting 0#11) = .next { at' .sendChunk 0#11 with
      trace := [.wr .ctrl 0xFED40000#64 1#32] } := rfl

/-- P5: the third plan of the run. -/
theorem test_stSendChunk_budget :
    exec .stSendChunk { at' .sendChunk 0#11 with totalSize := 4096#32, bytesTransferred := 8192#32 } = .next {
      at' .failed 0#11 with
      totalSize := 4096#32, bytesTransferred := 8192#32, chunkSize := 4096#13, outcome := .timeout } := rfl

/-- P1: the GO at `seq = 5 + n`. -/
theorem test_stSendChunk_go :
    exec .stSendChunk { at' .sendChunk 7#11 with pollCount := 5#14 } = .next { at' .waitReady 0#11 with
      trace := [.wr .ctrl 0xFED40000#64 0x80000000#32] } := rfl

/-- P7: ERROR and READY together. -/
theorem test_stWaitReady :
    exec .stWaitReady { at' .waitReady 0#11 with statusIn := [0x80000004#32] } = .next { at' .failed 0#11 with
      pollCount := 1#14, lastStatus := 0x80000004#32, outcome := .error
      trace := [.tick, .rd .status 0xFED40004#64 0x80000004#32] } := rfl

/-- P9: the header echo at `seq = 0`. -/
theorem test_stReadResponse :
    exec .stReadResponse { at' .readResponse 0#11 with rdataIn := [1#32] } = .next { at' .readResponse 1#11 with
      respHeader := 1#32, warnHdr := true, trace := [.rd .rdata 0xFED4000C#64 1#32] } := rfl

theorem test_stDone :
    exec .stDone { at' .done 0#11 with outcome := .ok } = .next { at' .idle 0#11 with
      mapped := false, outcome := .ok, trace := [.unmap, .done true .ok false false] } := rfl

/-- P6: no `UNMAP` without a window. -/
theorem test_stFailed :
    exec .stFailed { at' .failed 0#11 with outcome := .error, mapped := false } = .next { at' .idle 0#11 with
      mapped := false, outcome := .error, trace := [.done false .error false false] } := rfl

theorem test_outcomeTimeout :
    exec .outcomeTimeout (at' .sendChunk 3#11) = .next { at' .failed 0#11 with outcome := .timeout } := rfl

/-- P6 in one big step. -/
theorem test_stage_without_window :
    exec (.stage 0xFED40000#64 8#32) { State.reset with mapIn := [.fail] } = .next { State.reset with
      base := 0xFED40000#64, totalSize := 8#32, outcome := .error
      trace := [.start 0xFED40000#64 8#32, .map 0xFED40000#64 .fail, .done false .error false false] } := rfl

/-- R115, R116: with `totalSize = 0` and responses `Ok(0)`, then the sentinel, the run has two empty transactions. -/
theorem test_stage_two_empty_transactions :
    ∃ u, exec (.stage 0xFED40000#64 0#32) { State.reset with
        mapIn := [.ok], statusIn := [0x80000000#32, 0x80000000#32]
        rdataIn := [0x000B8086#32, 4#32, 0#32, 2#32, 0x000B8086#32, 4#32, 0xFFFFFFFF#32, 1#32] } = .next u
      ∧ u.st = .idle ∧ u.outcome = .ok ∧ u.trace.length = 35 ∧ goCount u.trace = 2 :=
  ⟨_, stageRun_of_turns (s := acceptStart 0xFED40000#64 0#32 { State.reset with
        mapIn := [.ok], statusIn := [0x80000000#32, 0x80000000#32]
        rdataIn := [0x000B8086#32, 4#32, 0#32, 2#32, 0x000B8086#32, 4#32, 0xFFFFFFFF#32, 1#32] }) (k := 2)
      (by decide) rfl rfl, rfl, rfl, rfl, rfl⟩

/-- V-C8: the payload sub-step outside the image. -/
theorem test_stSendChunk_out_of_bounds :
    exec .stSendChunk { at' .sendChunk 5#11 with offset := 0x2000#32 } = .fault .imageOutOfBounds := rfl

/-- V-C1. -/
theorem test_chunk_sizes :
    chunkSizeOf 10000#32 0#32 = 4096#13 ∧ chunkSizeOf 10000#32 8192#32 = 1808#13
    ∧ chunkSizeOf 4096#32 4096#32 = 0#13 ∧ chunkSizeOf 4096#32 8192#32 = 4096#13
    ∧ chunkSizeOf 100#32 0xFFFFFF00#32 = 356#13 := by decide

/-- V-C2. -/
theorem test_budget :
    overBudget 4096#32 4096#13 4096#32 = false ∧ overBudget 16384#32 4096#13 10000#32 = true
    ∧ overBudget 0xFFFFF000#32 4096#13 0x7FFFFFFC#32 = true ∧ overBudget 0#32 0#13 0#32 = false := by decide

theorem test_reset_line :
    step { at' .sendChunk 6#11 with resetIn := true, warnLen := true } = .next { State.reset with
      image := held.image } := rfl

theorem test_step_at_reset : step State.reset = .next State.reset := rfl

theorem test_placed_word :
    step ((State.reset).withFetchWord 32 0x80000004) = .next { State.reset with
      st := .failed, mapped := true, outcome := .error, pollCount := 1#14, lastStatus := 0x80000004#32
      trace := [.tick, .rd .status 4#64 0x80000004#32] } := rfl

/-! ### Witnesses: for each statement with hypotheses, values that meet them, clause by clause -/

theorem witness_DecodeEncodeRoundTrip :
    (Instr.respNextOffset 0xFFFFFFFE#32).wf .reference = true ∧ (Instr.reqPayload 1023#10).wf .reference = true := by
  decide

theorem witness_OnlyFiveBusAccessesDecode :
    decodeInstr .reference .mmioRead [0xC#8] = .ok .rdRdata
    ∧ decodeInstr .reference .mmioWrite [0x8#8, 1#8, 2#8, 3#8, 4#8] = .ok (.wrWdata 0x04030201#32) := by decide

theorem witness_StepRunsDecodedOperation :
    (at' .failed 0#11).resetIn = false
    ∧ decodeInstr (at' .failed 0#11).cfg .state [(stCode (at' .failed 0#11).st).setWidth 8] = .ok .stFailed := by decide

theorem witness_AssertedResetAbandonsRun : { at' .sendChunk 6#11 with resetIn := true }.resetIn = true := by decide

theorem witness_IdleRestsWithoutCommand :
    State.reset.hostIn = [] ∧ State.reset.st = .idle ∧ State.reset.resetIn = false := by decide

/-- The hypothesis that the window is held, alone: RegisterWritesAreOneAccess, AbortAndGoWriteControlWords,
ReadDataFillsLatch, ReadAcknowledgeIsAdjacent, RequestHeaderWords, AbortingIssuesAbort. -/
theorem witness_window_held : held.mapped = true ∧ (at' .aborting 0#11).mapped = true := by decide

theorem witness_StatusReadKeepsSample :
    held.mapped = true ∧ held.statusIn = []
    ∧ { held with statusIn := [4#32] }.mapped = true ∧ { held with statusIn := [4#32] }.statusIn = 4#32 :: [] := by decide

theorem witness_NoAccessWithoutWindow :
    State.reset.mapped = false ∧ Instr.stWaitReady ∈ [Instr.abort, .stAborting, .stWaitReady] := by decide

/-- The last dword inside, and the first address outside. -/
theorem witness_ImageFetchIsLittleEndian :
    (4#32).toNat + 3 < held.totalSize.toNat ∧ held.totalSize.toNat ≤ (5#32).toNat + 3 := by decide

theorem witness_UnmapAndTick :
    held.mapped = true ∧ State.reset.mapped = false ∧ (at' .waitReady 0#11).st = .waitReady ∧ held.st ≠ .waitReady := by
  decide

/-- The greatest base. -/
theorem witness_EffectiveAddressesAligned :
    (0xFFFFFFFFFFFFFFF0#64).toNat % 4 = 0 ∧ (0xFFFFFFFFFFFFFFF0#64).toNat + 15 < 2 ^ 64 := by decide

theorem witness_PayloadDwordIsFetchedThenWritten :
    (4#32 = held.offset + BitVec.ofNat 32 (4 * (1#10).toNat) ∧ held.mapped = true
      ∧ (4#32).toNat + 3 < held.totalSize.toNat)
    ∧ (8#32 = held.offset + BitVec.ofNat 32 (4 * (2#10).toNat) ∧ held.totalSize.toNat ≤ (8#32).toNat + 3) := by decide

theorem witness_EncodeIssuesWholeRequest :
    held.mapped = true ∧ held.chunkSize.toNat % 4 = 0 ∧ RequestInImage held := by decide

theorem witness_EncodeModelFaults :
    { held with chunkSize := 6#13 }.chunkSize.toNat % 4 ≠ 0
    ∧ { held with chunkSize := 12#13 }.mapped = true ∧ { held with chunkSize := 12#13 }.chunkSize.toNat % 4 = 0
    ∧ ¬ RequestInImage { held with chunkSize := 12#13 } := by decide

/-- An exit; the last poll without one; and the poll before it. -/
theorem witness_SampleClassesDecideWait :
    (True ↔ (4#32).getLsbD 31 = true ∨ (held.cfg.pollExitOnError = true ∧ (4#32).getLsbD 2 = true))
    ∧ (False ↔ (0#32).getLsbD 31 = true ∨ (held.cfg.pollExitOnError = true ∧ (0#32).getLsbD 2 = true))
    ∧ { held with pollCount := 10000#14 }.pollCount.toNat = 10000
    ∧ { held with pollCount := 9999#14 }.pollCount.toNat ≠ 10000 := by decide

theorem witness_PollStopsAtFirstExit :
    ∃ exits : Word → Prop, held.mapped = true
      ∧ ∀ u, exits u ↔ u.getLsbD 31 = true ∨ (held.cfg.pollExitOnError = true ∧ u.getLsbD 2 = true) :=
  ⟨_, rfl, fun _ => Iff.rfl⟩

theorem witness_UndefinedStatusBitsIgnored :
    (0x80000000#32).getLsbD 31 = (0xFFFFFFFB#32).getLsbD 31 ∧ (0x80000000#32).getLsbD 2 = (0xFFFFFFFB#32).getLsbD 2
    ∧ ∃ t, exec .stWaitReady { at' .waitReady 0#11 with statusIn := [0x80000000#32] } = .next t :=
  ⟨rfl, rfl, _, rfl⟩

theorem witness_FlagsDecideResult :
    held.respNext ≠ 0xFFFFFFFF#32 ∧ { held with respNext := 0xFFFFFFFF#32 }.respNext = 0xFFFFFFFF#32 := by decide

theorem witness_DecodeReadsFourWords :
    ∃ (s s1 s2 s3 s4 : State) (h l n f : Word), s.mapped = true
      ∧ h = rdataAnswer s ∧ s1 = afterRdataAnswer s ∧ l = rdataAnswer s1 ∧ s2 = afterRdataAnswer s1
      ∧ n = rdataAnswer s2 ∧ s3 = afterRdataAnswer s2 ∧ f = rdataAnswer s3 ∧ s4 = afterRdataAnswer s3 ∧ s4.rdataIn = [] :=
  ⟨{ held with rdataIn := [1#32, 2#32, 3#32, 4#32] }, _, _, _, _, _, _, _, _, rfl, rfl, rfl, rfl, rfl, rfl, rfl, rfl, rfl, rfl⟩

/-- The greatest admitted operands; then one operand beyond each bound, a busy sequencer, and an image beyond the size. -/
theorem witness_StartLatchesOperands :
    StartPremises 0xFFFFFFFFFFFFFFF0#64 0x7FFFFFFC#32 State.reset ∧ StartPremises 0#64 0#32 State.reset
    ∧ ¬ StartPremises 0xFFFFFFFFFFFFFFF4#64 8#32 State.reset ∧ ¬ StartPremises 2#64 8#32 State.reset
    ∧ ¬ StartPremises 0#64 0x80000000#32 State.reset ∧ ¬ StartPremises 0#64 6#32 State.reset
    ∧ ¬ StartPremises 0#64 8#32 (at' .done 0#11) ∧ ¬ StartPremises 0#64 4#32 { held with st := .idle } := by decide

theorem witness_IdleTakesCommand :
    { State.reset with hostIn := [⟨0#64, 8#32, held.image⟩] }.hostIn = ⟨0#64, 8#32, held.image⟩ :: []
    ∧ StartPremises 0#64 8#32 { State.reset with hostIn := [⟨0#64, 8#32, held.image⟩], image := held.image }
    ∧ { State.reset with hostIn := [⟨0#64, 4#32, held.image⟩] }.hostIn = ⟨0#64, 4#32, held.image⟩ :: []
    ∧ ¬ StartPremises 0#64 4#32 { State.reset with hostIn := [⟨0#64, 4#32, held.image⟩], image := held.image } := by decide

theorem witness_InitMapsOrFails :
    mapAnswer { at' .init 0#11 with mapIn := [.ok] } = .ok
    ∧ mapAnswer { at' .init 0#11 with mapIn := [.fail] } = .fail := by decide

theorem witness_PlanningChecksBudget : (at' .sendChunk 0#11).seq = 0#11 := by decide

/-- Where the two cases meet, and one beyond. -/
theorem witness_ChunkSizeArithmetic : (4#32).toNat ≤ (4#32).toNat ∧ (4#32).toNat < (5#32).toNat := by decide

theorem witness_ZeroLengthChunkIsPlanned :
    { at' .sendChunk 0#11 with offset := 8#32, bytesTransferred := 16#32 }.seq = 0#11
    ∧ { at' .sendChunk 0#11 with offset := 8#32, bytesTransferred := 16#32 }.offset = held.totalSize
    ∧ { at' .sendChunk 0#11 with offset := 8#32, bytesTransferred := 16#32 }.bytesTransferred.toNat
        ≤ 2 * held.totalSize.toNat := by decide

theorem witness_SendChunkSubSteps :
    held.mapped = true ∧ 2 = held.chunkSize.toNat / 4
    ∧ ((at' .sendChunk 1#11).seq = 1#11 ∧ { at' .sendChunk 1#11 with chunkSize := 6#13 }.chunkSize.toNat % 4 ≠ 0)
    ∧ held.chunkSize.toNat % 4 = 0
    ∧ (at' .sendChunk 2#11).seq = 2#11 ∧ (at' .sendChunk 3#11).seq = 3#11 ∧ (at' .sendChunk 4#11).seq = 4#11
    ∧ (1 < 2 ∧ (at' .sendChunk 6#11).seq.toNat = 5 + 1 ∧ 4#32 = held.offset + BitVec.ofNat 32 (4 * 1)
        ∧ (4#32).toNat + 3 < held.totalSize.toNat)
    ∧ (at' .sendChunk 7#11).seq.toNat = 5 + 2
    ∧ (5#32 = { held with offset := 1#32 }.offset + BitVec.ofNat 32 (4 * 1) ∧ held.totalSize.toNat ≤ (5#32).toNat + 3) := by
  decide

/-- The last poll of a wait, and a lone ERROR that does not exit. -/
theorem witness_PollStepSamplesOnce :
    ∃ (s t : State) (w : Word), s.mapped = true ∧ w = statusAnswer s
      ∧ t = { s with
        statusIn := s.statusIn.tail, draws := if s.statusIn = [] then s.draws + 1 else s.draws
        pollCount := s.pollCount + 1#14, lastStatus := w
        trace := s.trace ++ [.tick, .rd .status (s.base + 0x4#64) w] }
      ∧ t.pollCount.toNat = 10000 ∧ w.getLsbD 2 = true ∧ pollExit s.cfg w = false :=
  ⟨{ at' .waitReady 0#11 with
      pollCount := 9999#14, statusIn := [4#32], cfg := { Config.reference with pollExitOnError := false } },
    _, 4#32, rfl, rfl, rfl, rfl, rfl, rfl⟩

theorem witness_ReadResponseReads :
    ∃ (s t : State) (v : Word), s.mapped = true ∧ v = rdataAnswer s
      ∧ t = { s with
        rdataIn := s.rdataIn.tail, draws := if s.rdataIn = [] then s.draws + 1 else s.draws
        trace := s.trace ++ [.rd .rdata (s.base + 0xC#64) v], seq := s.seq + 1#11 }
      ∧ s.seq = 0#11 ∧ (at' .readResponse 2#11).seq = 2#11 ∧ (at' .readResponse 4#11).seq = 4#11
      ∧ (at' .readResponse 6#11).seq = 6#11 :=
  ⟨{ at' .readResponse 0#11 with rdataIn := [7#32] }, _, _, rfl, rfl, rfl, rfl, rfl, rfl, rfl⟩

theorem witness_ReadResponseAcknowledges :
    ∃ s t : State, s.mapped = true ∧ t = { s with trace := s.trace ++ [.wr .rdata (s.base + 0xC#64) 0x00000000#32] }
      ∧ s.seq = 7#11 ∧ (at' .readResponse 1#11).seq = 1#11 ∧ (at' .readResponse 5#11).seq = 5#11 :=
  ⟨at' .readResponse 7#11, _, rfl, rfl, rfl, rfl, rfl⟩

theorem witness_FinishingReleasesAndReports :
    held.mapped = true ∧ State.reset.mapped = false
    ∧ Event.done true .ok false false
      = .done (decide ({ held with outcome := .ok }.outcome = .ok)) { held with outcome := .ok }.outcome
        held.warnHdr held.warnLen := by decide

/-- A step out of a poll that meets the hypotheses of ControlTransitionsAreClosed, FailureTableIsComplete and
RunOperandsAreConstant. -/
theorem witness_step_of_a_run :
    (at' .waitReady 0#11).st ≠ .idle
    ∧ ∃ t, { at' .waitReady 0#11 with statusIn := [4#32] }.resetIn = false
      ∧ step { at' .waitReady 0#11 with statusIn := [4#32] } = .next t ∧ t.st = .failed :=
  ⟨by decide, _, rfl, rfl, rfl⟩

theorem witness_NoOperationWritesImage :
    (∃ t, exec .encode held = .next t) ∧ Instr.encode ≠ .stIdle
    ∧ ∃ t, exec .stIdle { State.reset with hostIn := [⟨0#64, 8#32, held.image⟩] } = .next t :=
  ⟨⟨_, rfl⟩, by decide, _, rfl⟩

/-- A run in its first wait, after its second poll. -/
def waiting : State :=
  { at' .waitReady 0#11 with
    totalSize := 0#32, chunkSize := 0#13, image := [], pollCount := 2#14, lastStatus := 0#32
    statusIn := [0x80000000#32]
    trace := [.start 0xFED40000#64 0#32, .map 0xFED40000#64 .ok, .wr .ctrl 0xFED40000#64 1#32,
      .wr .wdata 0xFED40008#64 0x000B8086#32, .wr .wdata 0xFED40008#64 4#32, .wr .wdata 0xFED40008#64 3#32,
      .wr .wdata 0xFED40008#64 0#32, .wr .ctrl 0xFED40000#64 0x80000000#32,
      .tick, .rd .status 0xFED40004#64 0#32, .tick, .rd .status 0xFED40004#64 0#32] }

theorem witness_waiting_invariants :
    ControlInv waiting ∧ BudgetInv waiting ∧ ImageInv waiting ∧ waiting.trace.all (legalAccess waiting.base) = true
    ∧ waiting.resetIn = false ∧ waiting.st = .waitReady := by decide

theorem witness_waiting_protocol : ProtocolInv waiting := ⟨.sampled 2 0#32, by decide, by decide⟩

/-- The step of the invariants' statements and of WaitEndsWithinPollMax. -/
theorem witness_waiting_step : ∃ t, step waiting = .next t ∧ t.st = .readResponse := ⟨_, rfl, rfl⟩

theorem witness_StageWithoutWindow :
    StartPremises 0#64 4#32 { State.reset with mapIn := [.fail] } ∧ State.reset.mapped = false
    ∧ { State.reset with mapIn := [.fail] }.mapIn = .fail :: [] := by decide

theorem witness_StageOfEmptyImage :
    StartPremises 0xFED40000#64 0#32 State.reset
    ∧ { State.reset with mapIn := [.ok] }.mapIn = .ok :: []
    ∧ { State.reset with statusIn := [0x80000000#32] }.statusIn = 0x80000000#32 :: []
    ∧ classify 0x80000000#32 = .ready
    ∧ { State.reset with rdataIn := [0x000B8086#32, 4#32, 0xFFFFFFFF#32, 1#32] }.rdataIn
        = 0x000B8086#32 :: 4#32 :: 0xFFFFFFFF#32 :: 1#32 :: []
    ∧ respErrorSet State.reset.cfg 1#32 = false := by decide

theorem witness_StageAgreesWithSteps :
    State.reset.resetIn = false ∧ ∃ u, exec (.start 0#64 4#32) State.reset = .next u := ⟨rfl, _, rfl⟩

/-- The answers of a conforming device to an image of 4100 bytes, the first wait with one pending sample (V-C3). -/
theorem witness_ConformingRunEndsOk :
    StartPremises 0xFED40000#64 4100#32 State.reset ∧ 0 < (4100#32).toNat
    ∧ { State.reset with mapIn := [.ok] }.mapIn = .ok :: []
    ∧ Conforming .reference (4100#32).toNat 0 [0#32, 0x80000000#32, 0x80000000#32]
      [Config.reference.headerConst, Config.reference.respLenExpected, 4096#32, 2#32,
        Config.reference.headerConst, Config.reference.respLenExpected, Config.terminalSentinel, 1#32] := by
  have ready : ConformingWait [] 0x80000000#32 := ⟨by simp [pollMax_eq], by simp, rfl⟩
  have pending : ConformingWait [0#32] 0x80000000#32 := ⟨by simp [pollMax_eq], by simp; rfl, rfl⟩
  refine ⟨by decide, by decide, by decide, ?_⟩
  exact .more 0 [0#32] 0x80000000#32 2#32 [0x80000000#32] _ (by decide) pending (by decide)
    (.last 4096 [] 0x80000000#32 1#32 [] [] (by decide) (by decide) ready (by decide))

end Sys2Proof.Tests
end

/-! The step as a case distinction over the control states, and the families of the state: what a run leaves alone
(spec/10_state.md R11, R27), the control invariant, the byte budget, reset and the outcome codes. -/

namespace Sys2Proof.Machine

/-! ### The step, by control state -/

/-- Reset, or the rule of the control state: to show `P` of what a step answers, show it of what each rule answers. -/
theorem step_elim {P : State → Prop} {s t : State} (h : step s = .next t)
    (reset : s.resetIn = true → P (hardReset s))
    (idle : s.st = .idle → execStIdle s = .next t → P t)
    (init : s.st = .init → P (initStep s))
    (aborting : s.st = .aborting → execStAborting s = .next t → P t)
    (sendChunk : s.st = .sendChunk → execStSendChunk s = .next t → P t)
    (waitReady : s.st = .waitReady → execStWaitReady s = .next t → P t)
    (readResponse : s.st = .readResponse → execStReadResponse s = .next t → P t)
    (finishing : s.st = .done ∨ s.st = .failed → P (finish s)) : P t := by
  cases hr : s.resetIn with
  | true =>
    obtain rfl : hardReset s = t := by simpa [step_of_reset hr] using h
    exact reset hr
  | false =>
    rw [step_eq_rule hr] at h
    cases hst : s.st <;> rw [hst] at h
    case idle => exact idle hst h
    case init => cases h; exact init hst
    case aborting => exact aborting hst h
    case sendChunk => exact sendChunk hst h
    case waitReady => exact waitReady hst h
    case readResponse => exact readResponse hst h
    case done => cases h; exact finishing (.inl hst)
    case failed => cases h; exact finishing (.inr hst)

/-- A sub-step of `ENCODE` before GO only records events and goes one sub-step further; GO starts the wait (R105). -/
theorem sendSubStep_advances {s t : State} (h : sendSubStep s = .next t) :
    s.mapped = true ∧
    ((s.seq.toNat < goSubStep s.chunkSize ∧ (s.seq = 1#11 → chunkIsDwords s.chunkSize = true)
        ∧ ∃ es, t = { s with trace := s.trace ++ es, seq := s.seq + 1#11 })
    ∨ t = enterWait (s.emit (.wr .ctrl (regAddr s.base .ctrl) Config.ctrlGoWord))) := by
  have header_lt {q : BitVec 11} (hq : s.seq = q) (h4 : q.toNat ≤ 4) : s.seq.toNat < goSubStep s.chunkSize := by
    unfold goSubStep; rw [hq]; omega
  obtain ⟨hm, h⟩ := sendSubStep_cases h
  refine ⟨hm, ?_⟩
  obtain ⟨hq, hc, rfl⟩ | ⟨hq, rfl⟩ | ⟨hq, rfl⟩ | ⟨hq, rfl⟩ | ⟨hq, -, -, -, hlt, rfl⟩ | ⟨-, -, -, -, -, rfl⟩ := h
  · exact .inl ⟨header_lt hq (by decide), fun _ => hc, _, rfl⟩
  · exact .inl ⟨header_lt hq (by decide), by simp [hq], _, rfl⟩
  · exact .inl ⟨header_lt hq (by decide), by simp [hq], _, rfl⟩
  · exact .inl ⟨header_lt hq (by decide), by simp [hq], _, rfl⟩
  · exact .inl ⟨hlt, fun h1 => absurd h1 hq, _, by rw [State.advance, State.emit, State.emit, List.append_assoc]⟩
  · exact .inr rfl

/-! ### What a run leaves alone (R11, R27, R41) -/

/-- `t` has the operands of `s`: base, size, parameters, image and waiting commands. -/
structure SameOperands (s t : State) : Prop where
  base : t.base = s.base
  totalSize : t.totalSize = s.totalSize
  cfg : t.cfg = s.cfg
  hostIn : t.hostIn = s.hostIn
  image : t.image = s.image

theorem SameOperands.trans {s t u : State} (h : SameOperands s t) (h' : SameOperands t u) : SameOperands s u where
  base := h'.base.trans h.base
  totalSize := h'.totalSize.trans h.totalSize
  cfg := h'.cfg.trans h.cfg
  hostIn := h'.hostIn.trans h.hostIn
  image := h'.image.trans h.image

theorem initStep_sameOperands (s : State) : SameOperands s (initStep s) := by
  obtain ⟨-, h⟩ | ⟨-, h⟩ := initStep_cases s <;> rw [h, mapPort_eq] <;> constructor <;> rfl

theorem execStAborting_sameOperands {s t : State} (h : execStAborting s = .next t) : SameOperands s t := by
  obtain ⟨-, rfl⟩ := execStAborting_cases h
  constructor <;> rfl

theorem execStSendChunk_sameOperands {s t : State} (h : execStSendChunk s = .next t) : SameOperands s t := by
  obtain ⟨-, rfl⟩ | ⟨-, hsub⟩ := execStSendChunk_cases h
  · obtain ⟨-, hp⟩ | ⟨-, hp⟩ := planChunk_cases s <;> rw [hp] <;> constructor <;> rfl
  · obtain ⟨-, ⟨-, -, es, rfl⟩ | rfl⟩ := sendSubStep_advances hsub <;> constructor <;> rfl

theorem endPoll_sameOperands (s : State) : SameOperands s (endPoll s) := by
  obtain ⟨-, -, h⟩ | ⟨-, h⟩ | ⟨-, -, h⟩ | ⟨-, -, h⟩ := endPoll_cases s <;> rw [h] <;> constructor <;> rfl

theorem execStWaitReady_sameOperands {s t : State} (h : execStWaitReady s = .next t) : SameOperands s t := by
  obtain ⟨-, rfl⟩ := execStWaitReady_cases h
  have hread : SameOperands s (afterStatusRead (tickPort s)) := by
    rw [afterStatusRead_eq]
    constructor <;> rfl
  exact hread.trans (endPoll_sameOperands _)

theorem endResponse_sameOperands (s : State) : SameOperands s (endResponse s) := by
  obtain ⟨-, h⟩ | ⟨-, -, h⟩ | ⟨-, -, h⟩ := endResponse_cases s <;> rw [h] <;> constructor <;> rfl

theorem execStReadResponse_sameOperands {s t : State} (h : execStReadResponse s = .next t) : SameOperands s t := by
  obtain ⟨-, ⟨-, rfl⟩ | ⟨-, rfl⟩ | ⟨-, rfl⟩⟩ := execStReadResponse_cases h
  · rw [checkEcho_eq, afterRdataRead_eq]
    constructor <;> rfl
  · constructor <;> rfl
  · have hack : SameOperands s (s.emit (.wr .rdata (regAddr s.base .rdata) 0#32)) := by constructor <;> rfl
    exact hack.trans (endResponse_sameOperands _)

theorem finish_sameOperands (s : State) : SameOperands s (finish s) := by
  rw [finish_eq]
  constructor <;> rfl

/-- Outside Idle a step keeps the operands of the run. -/
theorem step_sameOperands {s t : State} (hr : s.resetIn = false) (hst : s.st ≠ .idle) (h : step s = .next t) :
    SameOperands s t :=
  step_elim h
    (reset := fun hr' => absurd hr' (by simp [hr]))
    (idle := fun hi _ => absurd hi hst)
    (init := fun _ => initStep_sameOperands s)
    (aborting := fun _ => execStAborting_sameOperands)
    (sendChunk := fun _ => execStSendChunk_sameOperands)
    (waitReady := fun _ => execStWaitReady_sameOperands)
    (readResponse := fun _ => execStReadResponse_sameOperands)
    (finishing := fun _ => finish_sameOperands s)

/-- Settles O47: no rule but that of Idle writes an operand of the run. -/
theorem runOperandsAreConstant : Obligations.RunOperandsAreConstant := by
  intro s t hr hst h
  obtain ⟨hbase, htotal, hcfg, hhost, himage⟩ := step_sameOperands hr hst h
  exact ⟨hbase, htotal, hcfg, hhost, fun a => by rw [himage]⟩

end Sys2Proof.Machine

namespace Sys2Proof.Safety

open Sys2Proof.Machine

/-! ### The control invariant -/

/-- The part of `ControlInv` that holds in every control state: the operands of an accepted `START` (R161) and the ranges
of the counters (R12, R15). -/
structure InRange (s : State) : Prop where
  size : s.totalSize.toNat ≤ Config.totalSizeMax
  dwords : s.totalSize.toNat % 4 = 0
  aligned : s.base.toNat % 4 = 0
  window : s.base.toNat + 15 < 2 ^ 64
  chunk : s.chunkSize.toNat ≤ Config.pageSize
  polls : s.pollCount.toNat ≤ Config.pollMax

/-- The part of `ControlInv` that a control state adds: its sub-steps, whether it holds the window, its outcome. -/
def AtState (s : State) : St → Prop
  | .idle | .init => s.seq = 0#11 ∧ s.mapped = false
  | .aborting => s.seq = 0#11 ∧ s.mapped = true ∧ s.outcome = .none
  | .sendChunk => s.mapped = true ∧ s.outcome = .none ∧ s.seq.toNat ≤ goSubStep s.chunkSize
      ∧ (2 ≤ s.seq.toNat → chunkIsDwords s.chunkSize = true)
  | .waitReady => s.seq = 0#11 ∧ s.mapped = true ∧ s.outcome = .none ∧ s.pollCount.toNat < Config.pollMax
  | .readResponse => s.mapped = true ∧ s.outcome = .none ∧ s.seq.toNat ≤ 7
  | .done => s.seq = 0#11 ∧ s.mapped = true ∧ s.outcome = .ok
  | .failed => s.seq = 0#11 ∧ (s.outcome = .timeout ∨ s.outcome = .error)

theorem inRange_iff (s : State) : InRange s ↔
    (s.totalSize.toNat ≤ Config.totalSizeMax ∧ s.totalSize.toNat % 4 = 0
      ∧ s.base.toNat % 4 = 0 ∧ s.base.toNat + 15 < 2 ^ 64)
    ∧ (s.chunkSize.toNat ≤ Config.pageSize ∧ s.pollCount.toNat ≤ Config.pollMax) where
  mp := fun ⟨size, dwords, aligned, window, chunk, polls⟩ => ⟨⟨size, dwords, aligned, window⟩, chunk, polls⟩
  mpr := fun ⟨⟨size, dwords, aligned, window⟩, chunk, polls⟩ => ⟨size, dwords, aligned, window, chunk, polls⟩

/-- `ControlInv` is the part common to all control states and the part of the one the sequencer is in. -/
theorem controlInv_iff (s : State) : ControlInv s ↔ InRange s ∧ AtState s s.st := by
  rw [inRange_iff]
  cases hst : s.st <;> simp [ControlInv, AtState, hst, and_assoc]

theorem ControlInv.inRange {s : State} (h : ControlInv s) : InRange s := ((controlInv_iff s).1 h).1

theorem ControlInv.atState {s : State} {c : St} (h : ControlInv s) (hst : s.st = c) : AtState s c :=
  hst ▸ ((controlInv_iff s).1 h).2

theorem controlInv_of_atState {s : State} (hr : InRange s) (ha : AtState s s.st) : ControlInv s :=
  (controlInv_iff s).2 ⟨hr, ha⟩

/-- Where the operands stay, only the counters can leave their ranges. -/
theorem InRange.of_sameOperands {s t : State} (h : InRange s) (ho : SameOperands s t)
    (chunk : t.chunkSize.toNat ≤ Config.pageSize) (polls : t.pollCount.toNat ≤ Config.pollMax) : InRange t where
  size := ho.totalSize ▸ h.size
  dwords := ho.totalSize ▸ h.dwords
  aligned := ho.base ▸ h.aligned
  window := ho.base ▸ h.window
  chunk := chunk
  polls := polls

theorem InRange.of_sameCounters {s t : State} (h : InRange s) (ho : SameOperands s t)
    (chunk : t.chunkSize = s.chunkSize) (polls : t.pollCount = s.pollCount) : InRange t :=
  h.of_sameOperands ho (chunk ▸ h.chunk) (polls ▸ h.polls)

/-- Before the length word nothing is known of the chunk yet (R105). -/
theorem atState_sendChunk_of_seq_le_one {s : State} (hm : s.mapped = true) (hout : s.outcome = .none)
    (hq : s.seq.toNat ≤ 1) : AtState s .sendChunk :=
  ⟨hm, hout, by unfold goSubStep; omega, by omega⟩

/-- A chunk of at most a page keeps the sub-steps of SendChunk far below the end of `seq` (R13). -/
theorem goSubStep_le {c : BitVec 13} (h : c.toNat ≤ Config.pageSize) : goSubStep c ≤ 1029 := by
  unfold Config.pageSize at h
  unfold goSubStep payloadCount
  omega

theorem seq_succ_toNat {q : BitVec 11} (h : q.toNat < 1029) : (q + 1#11).toNat = q.toNat + 1 := by
  rw [BitVec.toNat_add]
  exact Nat.mod_eq_of_lt (by simpa using by omega)

theorem controlInv_reset : ControlInv State.reset := by decide

/-- An asserted reset leaves every register of the invariant as reset does. -/
theorem controlInv_hardReset (s : State) : ControlInv (hardReset s) := controlInv_reset

theorem controlInv_execStIdle {s t : State} (hs : ControlInv s) (hst : s.st = .idle) (h : execStIdle s = .next t) :
    ControlInv t := by
  obtain ⟨-, rfl⟩ | ⟨c, cs, -, hp, rfl⟩ := execStIdle_cases h
  · exact hs
  · obtain ⟨-, hsize, hdwords, haligned, hwindow, -⟩ := startPremiseBroken_eq_none.1 hp
    obtain ⟨-, hm⟩ := hs.atState hst
    exact controlInv_of_atState ⟨hsize, hdwords, haligned, hwindow, hs.inRange.chunk, hs.inRange.polls⟩ ⟨rfl, hm⟩

theorem controlInv_initStep {s : State} (hs : ControlInv s) : ControlInv (initStep s) := by
  have ho := initStep_sameOperands s
  obtain ⟨ha, h⟩ | ⟨-, h⟩ := initStep_cases s <;> rw [h, mapPort_eq] at ho ⊢
  · exact controlInv_of_atState (hs.inRange.of_sameCounters ho rfl rfl)
      ⟨rfl, if_pos ha, rfl⟩
  · exact controlInv_of_atState (hs.inRange.of_sameCounters ho rfl rfl)
      ⟨rfl, .inr rfl⟩

theorem controlInv_execStAborting {s t : State} (hs : ControlInv s) (hst : s.st = .aborting)
    (h : execStAborting s = .next t) : ControlInv t := by
  have ho := execStAborting_sameOperands h
  obtain ⟨-, hm, hout⟩ := hs.atState hst
  obtain ⟨-, rfl⟩ := execStAborting_cases h
  exact controlInv_of_atState (hs.inRange.of_sameCounters ho rfl rfl)
    (atState_sendChunk_of_seq_le_one hm hout (Nat.zero_le _))

theorem controlInv_planChunk {s : State} (hs : ControlInv s) (hst : s.st = .sendChunk)
    (ho : SameOperands s (planChunk s)) : ControlInv (planChunk s) := by
  obtain ⟨hm, hout, -, -⟩ := hs.atState hst
  obtain ⟨-, h⟩ | ⟨-, h⟩ := planChunk_cases s <;> rw [h] at ho ⊢
  · exact controlInv_of_atState (hs.inRange.of_sameOperands ho (chunkSizeOf_le_page ..) hs.inRange.polls)
      ⟨rfl, .inl rfl⟩
  · refine controlInv_of_atState (hs.inRange.of_sameOperands ho (chunkSizeOf_le_page ..) hs.inRange.polls) ?_
    rw [hst]
    exact atState_sendChunk_of_seq_le_one hm hout (Nat.le_refl 1)

theorem controlInv_sendSubStep {s t : State} (hs : ControlInv s) (hst : s.st = .sendChunk)
    (h : sendSubStep s = .next t) (ho : SameOperands s t) : ControlInv t := by
  obtain ⟨hm, hout, -, hdw⟩ := hs.atState hst
  obtain ⟨-, ⟨hlt, hc, es, rfl⟩ | rfl⟩ := sendSubStep_advances h
  · refine controlInv_of_atState (hs.inRange.of_sameCounters ho rfl rfl) ?_
    have hseq := seq_succ_toNat (Nat.lt_of_lt_of_le hlt (goSubStep_le hs.inRange.chunk))
    rw [hst]
    refine ⟨hm, hout, hseq ▸ hlt, fun _ => ?_⟩
    by_cases h1 : s.seq = 1#11
    · exact hc h1
    · exact hdw (by bv_omega)
  · exact controlInv_of_atState (hs.inRange.of_sameOperands ho hs.inRange.chunk (Nat.zero_le _))
      ⟨rfl, hm, hout, by simp [enterWait, clearPolls]⟩

theorem controlInv_execStSendChunk {s t : State} (hs : ControlInv s) (hst : s.st = .sendChunk)
    (h : execStSendChunk s = .next t) : ControlInv t := by
  have ho := execStSendChunk_sameOperands h
  obtain ⟨-, rfl⟩ | ⟨-, hsub⟩ := execStSendChunk_cases h
  · exact controlInv_planChunk hs hst ho
  · exact controlInv_sendSubStep hs hst hsub ho

/-- After the last admitted poll the wait is over, so one that goes on has polls left (R106). -/
theorem pollCount_ne_of_waitGoesOn {w : Word} {s : State} (h : waitEnds w s = false) :
    s.pollCount.toNat ≠ Config.pollMax :=
  of_decide_eq_false (Bool.or_eq_false_iff.1 h).2

theorem controlInv_endPoll {s : State} (hr : InRange s) (hst : s.st = .waitReady) (hseq : s.seq = 0#11)
    (hm : s.mapped = true) (hout : s.outcome = .none) : ControlInv (endPoll s) := by
  have ho := endPoll_sameOperands s
  obtain ⟨hw, -, h⟩ | ⟨-, h⟩ | ⟨-, -, h⟩ | ⟨-, -, h⟩ := endPoll_cases s <;> rw [h] at ho ⊢
  · refine controlInv_of_atState hr ?_
    rw [hst]
    exact ⟨hseq, hm, hout, Nat.lt_of_le_of_ne hr.polls (pollCount_ne_of_waitGoesOn hw)⟩
  · exact controlInv_of_atState (hr.of_sameCounters ho rfl rfl) ⟨hm, hout, Nat.zero_le _⟩
  · exact controlInv_of_atState (hr.of_sameCounters ho rfl rfl) ⟨rfl, .inr rfl⟩
  · exact controlInv_of_atState (hr.of_sameCounters ho rfl rfl) ⟨rfl, .inl rfl⟩

theorem controlInv_execStWaitReady {s t : State} (hs : ControlInv s) (hst : s.st = .waitReady)
    (h : execStWaitReady s = .next t) : ControlInv t := by
  obtain ⟨hseq, hm, hout, hpolls⟩ := hs.atState hst
  obtain ⟨-, rfl⟩ := execStWaitReady_cases h
  have hcount : (s.pollCount + 1#14).toNat ≤ Config.pollMax := by
    simp only [pollMax_eq] at hpolls ⊢
    bv_omega
  rw [afterStatusRead_eq]
  exact controlInv_endPoll (hs.inRange.of_sameOperands (by constructor <;> rfl) hs.inRange.chunk hcount) hst hseq hm hout

theorem controlInv_endResponse {s : State} (hr : InRange s) (hm : s.mapped = true) (hout : s.outcome = .none) :
    ControlInv (endResponse s) := by
  have ho := endResponse_sameOperands s
  obtain ⟨-, h⟩ | ⟨-, -, h⟩ | ⟨-, -, h⟩ := endResponse_cases s <;> rw [h] at ho ⊢
  · exact controlInv_of_atState (hr.of_sameCounters ho rfl rfl) ⟨rfl, .inr rfl⟩
  · exact controlInv_of_atState (hr.of_sameCounters ho rfl rfl) ⟨rfl, hm, rfl⟩
  · exact controlInv_of_atState (hr.of_sameCounters ho rfl rfl)
      (atState_sendChunk_of_seq_le_one hm hout (Nat.zero_le _))

theorem controlInv_execStReadResponse {s t : State} (hs : ControlInv s) (hst : s.st = .readResponse)
    (h : execStReadResponse s = .next t) : ControlInv t := by
  have ho := execStReadResponse_sameOperands h
  obtain ⟨hm, hout, -⟩ := hs.atState hst
  obtain ⟨-, ⟨hq, rfl⟩ | ⟨hq, rfl⟩ | ⟨-, rfl⟩⟩ := execStReadResponse_cases h
  · rw [checkEcho_eq, afterRdataRead_eq] at ho ⊢
    refine controlInv_of_atState (hs.inRange.of_sameCounters ho rfl rfl) ?_
    rw [State.advance_st, hst]
    exact ⟨hm, hout, by rcases hq with hq | hq | hq | hq <;> simp [hq]⟩
  · refine controlInv_of_atState (hs.inRange.of_sameCounters ho rfl rfl) ?_
    rw [State.advance_st, State.emit_st, hst]
    exact ⟨hm, hout, by rcases hq with hq | hq | hq <;> simp [hq]⟩
  · exact controlInv_endResponse (hs.inRange.of_sameCounters (by constructor <;> rfl) rfl rfl)
      hm hout

theorem controlInv_finish {s : State} (hs : ControlInv s) : ControlInv (finish s) := by
  have ho := finish_sameOperands s
  rw [finish_eq] at ho ⊢
  exact controlInv_of_atState (hs.inRange.of_sameCounters ho rfl rfl) ⟨rfl, rfl⟩

/-- Settles O50: each rule leads into a control state whose part of the invariant it has established. -/
theorem stepKeepsControlInv : Obligations.StepKeepsControlInv := by
  intro s t hs h
  exact step_elim h
    (reset := fun _ => controlInv_hardReset s)
    (idle := controlInv_execStIdle hs)
    (init := fun _ => controlInv_initStep hs)
    (aborting := controlInv_execStAborting hs)
    (sendChunk := controlInv_execStSendChunk hs)
    (waitReady := controlInv_execStWaitReady hs)
    (readResponse := controlInv_execStReadResponse hs)
    (finishing := fun _ => controlInv_finish hs)

end Sys2Proof.Safety

namespace Sys2Proof.Safety

open Sys2Proof.Machine

/-! ### The byte budget (R29 a, R114) -/

theorem BudgetInv.size {s : State} (h : BudgetInv s) : s.totalSize.toNat ≤ Config.totalSizeMax := h.1

/-- A chunk is planned or sent: its size is part of what the budget bounds. -/
theorem BudgetInv.withChunk {s : State} (h : BudgetInv s)
    (hst : s.st = .waitReady ∨ (s.st = .sendChunk ∧ s.seq ≠ 0#11)) :
    s.bytesTransferred.toNat + s.chunkSize.toNat ≤ 2 * s.totalSize.toNat :=
  h.2.2 hst

theorem BudgetInv.outsideInit {s : State} (h : BudgetInv s) (hst : s.st ≠ .init) :
    s.bytesTransferred.toNat ≤ 2 * s.totalSize.toNat :=
  h.2.1 hst

/-- Where no chunk is under way, the bound on `bytesTransferred` alone is the invariant. -/
theorem budgetInv_of_noChunk {s : State} (hsize : s.totalSize.toNat ≤ Config.totalSizeMax)
    (hb : s.bytesTransferred.toNat ≤ 2 * s.totalSize.toNat)
    (hno : ¬ (s.st = .waitReady ∨ (s.st = .sendChunk ∧ s.seq ≠ 0#11))) : BudgetInv s :=
  ⟨hsize, fun _ => hb, fun h => absurd h hno⟩

/-- The bound with the chunk added is the invariant in every control state. -/
theorem budgetInv_of_withChunk {s : State} (hsize : s.totalSize.toNat ≤ Config.totalSizeMax)
    (hb : s.bytesTransferred.toNat + s.chunkSize.toNat ≤ 2 * s.totalSize.toNat) : BudgetInv s :=
  ⟨hsize, fun _ => Nat.le_of_add_right_le hb, fun _ => hb⟩

theorem budgetInv_reset : BudgetInv State.reset := by decide

/-- An asserted reset leaves every register of the invariant as reset does. -/
theorem budgetInv_hardReset (s : State) : BudgetInv (hardReset s) := budgetInv_reset

theorem budgetInv_execStIdle {s t : State} (hs : BudgetInv s) (h : execStIdle s = .next t) : BudgetInv t := by
  obtain ⟨-, rfl⟩ | ⟨c, cs, -, hp, rfl⟩ := execStIdle_cases h
  · exact hs
  · obtain ⟨-, hsize, -⟩ := startPremiseBroken_eq_none.1 hp
    exact ⟨hsize, by simp [acceptStart], by simp [acceptStart]⟩

theorem budgetInv_initStep {s : State} (hs : BudgetInv s) : BudgetInv (initStep s) := by
  obtain ⟨-, h⟩ | ⟨-, h⟩ := initStep_cases s <;> rw [h, mapPort_eq]
  · exact budgetInv_of_noChunk hs.size (Nat.zero_le _) (by simp)
  · exact budgetInv_of_noChunk hs.size (Nat.zero_le _) (by simp)

theorem budgetInv_execStAborting {s t : State} (hs : BudgetInv s) (hst : s.st = .aborting)
    (h : execStAborting s = .next t) : BudgetInv t := by
  obtain ⟨-, rfl⟩ := execStAborting_cases h
  exact budgetInv_of_noChunk hs.size (hs.outsideInit (by simp [hst])) (by simp)

/-- The planning step fails a chunk that would go over the budget, so the one it lets pass fits (R104). -/
theorem budgetInv_planChunk {s : State} (hs : BudgetInv s) (hst : s.st = .sendChunk) : BudgetInv (planChunk s) := by
  obtain ⟨-, h⟩ | ⟨hfits, h⟩ := planChunk_cases s <;> rw [h]
  · exact budgetInv_of_noChunk hs.size (hs.outsideInit (by simp [hst])) (by simp)
  · exact budgetInv_of_withChunk hs.size (Nat.not_lt.1 (of_decide_eq_false hfits))

theorem budgetInv_execStSendChunk {s t : State} (hs : BudgetInv s) (hst : s.st = .sendChunk)
    (h : execStSendChunk s = .next t) : BudgetInv t := by
  obtain ⟨-, rfl⟩ | ⟨h0, hsub⟩ := execStSendChunk_cases h
  · exact budgetInv_planChunk hs hst
  · have hb := hs.withChunk (.inr ⟨hst, h0⟩)
    obtain ⟨-, ⟨-, -, es, rfl⟩ | rfl⟩ := sendSubStep_advances hsub <;> exact budgetInv_of_withChunk hs.size hb

/-- Counting the chunk at the end of its wait adds at most its size, also where the sum wraps. -/
theorem bytesTransferred_sampledReady_le (s : State) :
    (sampledReady s).bytesTransferred.toNat ≤ s.bytesTransferred.toNat + s.chunkSize.toNat := by
  have hsum := Nat.mod_le (s.bytesTransferred.toNat + s.chunkSize.toNat) (2 ^ 32)
  simpa [sampledReady, BitVec.toNat_add] using hsum

theorem budgetInv_endPoll {s : State} (hs : BudgetInv s) (hst : s.st = .waitReady) : BudgetInv (endPoll s) := by
  have hb := hs.withChunk (.inl hst)
  obtain ⟨-, -, h⟩ | ⟨-, h⟩ | ⟨-, -, h⟩ | ⟨-, -, h⟩ := endPoll_cases s <;> rw [h]
  · exact hs
  · exact budgetInv_of_noChunk hs.size ((bytesTransferred_sampledReady_le s).trans hb) (by simp [sampledReady])
  · exact budgetInv_of_withChunk hs.size hb
  · exact budgetInv_of_withChunk hs.size hb

theorem budgetInv_execStWaitReady {s t : State} (hs : BudgetInv s) (hst : s.st = .waitReady)
    (h : execStWaitReady s = .next t) : BudgetInv t := by
  obtain ⟨-, rfl⟩ := execStWaitReady_cases h
  rw [afterStatusRead_eq]
  exact budgetInv_endPoll (budgetInv_of_withChunk hs.size (hs.withChunk (.inl hst))) hst

theorem budgetInv_execStReadResponse {s t : State} (hs : BudgetInv s) (hst : s.st = .readResponse)
    (h : execStReadResponse s = .next t) : BudgetInv t := by
  have hb := hs.outsideInit (by simp [hst])
  obtain ⟨-, ⟨-, rfl⟩ | ⟨-, rfl⟩ | ⟨-, rfl⟩⟩ := execStReadResponse_cases h
  · rw [checkEcho_eq, afterRdataRead_eq]
    exact budgetInv_of_noChunk hs.size hb (by simp [hst])
  · exact budgetInv_of_noChunk hs.size hb (by simp [hst])
  · obtain ⟨-, h⟩ | ⟨-, -, h⟩ | ⟨-, -, h⟩ := endResponse_cases (s.emit (.wr .rdata (regAddr s.base .rdata) 0#32)) <;>
      rw [h]
    · exact budgetInv_of_noChunk hs.size hb (by simp)
    · exact budgetInv_of_noChunk hs.size hb (by simp [endOfImage])
    · exact budgetInv_of_noChunk hs.size hb (by simp [nextChunk])

theorem budgetInv_finish {s : State} (hs : BudgetInv s) (hst : s.st = .done ∨ s.st = .failed) : BudgetInv (finish s) := by
  rw [finish_eq]
  exact budgetInv_of_noChunk hs.size (hs.outsideInit (by rcases hst with hst | hst <;> simp [hst])) (by simp)

/-- Settles O51: only the end of a wait adds to `bytesTransferred`, and it adds the chunk that the planning step has
let pass. -/
theorem stepKeepsByteBudget : Obligations.StepKeepsByteBudget := by
  intro s t hs h
  exact step_elim h
    (reset := fun _ => budgetInv_hardReset s)
    (idle := fun _ => budgetInv_execStIdle hs)
    (init := fun _ => budgetInv_initStep hs)
    (aborting := budgetInv_execStAborting hs)
    (sendChunk := budgetInv_execStSendChunk hs)
    (waitReady := budgetInv_execStWaitReady hs)
    (readResponse := budgetInv_execStReadResponse hs)
    (finishing := budgetInv_finish hs)

/-- Settles O49: the monitor has seen nothing yet and the sequencer rests in Idle. -/
theorem invariantsHoldAtReset : Obligations.InvariantsHoldAtReset :=
  ⟨controlInv_reset, budgetInv_reset, by decide, .fresh, rfl, rfl⟩

end Sys2Proof.Safety

namespace Sys2Proof.Machine

/-! ### The fetch -/

/-- The operation of a control state: the step rule its code stands for (R14). -/
def ruleOf : St → Instr
  | .idle => .stIdle
  | .init => .stInit
  | .aborting => .stAborting
  | .sendChunk => .stSendChunk
  | .waitReady => .stWaitReady
  | .readResponse => .stReadResponse
  | .done => .stDone
  | .failed => .stFailed

theorem fetch_eq (s : State) : fetch s = .ok (ruleOf s.st) := by
  unfold fetch fetchByte
  cases s.st <;> rfl

theorem ruleOf_wf (c : Config) (t : St) : (ruleOf t).wf c = true := by
  cases t <;> rfl

theorem step_eq_exec {s : State} (h : s.resetIn = false) : step s = exec (ruleOf s.st) s := by
  rw [step, h, fetch_eq]
  rfl

/-- Settles O5: the state code decodes to the rule of its state. -/
theorem stepRunsDecodedOperation : Obligations.StepRunsDecodedOperation := by
  intro s hr
  refine ⟨⟨ruleOf s.st, fetch_eq s⟩, fun i hi => ?_⟩
  obtain rfl : ruleOf s.st = i := Decoded.ok.inj ((fetch_eq s).symm.trans hi)
  exact ⟨ruleOf_wf .., step_eq_exec hr⟩

/-! ### Reset and the outcome codes -/

/-- Settles O6: the values stand in the definition of the reset state. -/
theorem resetValues : Obligations.ResetValues := ⟨rfl, rfl, rfl, rfl, rfl, rfl⟩

/-- Settles O34: both codes are one update of the registers, with no branch. -/
theorem outcomeNoneAndOk : Obligations.OutcomeNoneAndOk := fun _ => ⟨rfl, rfl⟩

/-! ### Accesses without a window (R19) -/

section
variable {s : State} (h : s.mapped = false)
include h

theorem wrPort_unmapped (r : Reg) (v : Word) : wrPort r v s = .fault .windowNotMapped := by
  simp [wrPort, h]

theorem rdStatusPort_unmapped : rdStatusPort s = .fault .windowNotMapped := by
  simp [rdStatusPort, h]

theorem rdRdataPort_unmapped (l : Option Latch) : rdRdataPort l s = .fault .windowNotMapped := by
  simp [rdRdataPort, h]

theorem rdackPort_unmapped (l : Option Latch) : rdackPort l s = .fault .windowNotMapped := by
  rw [rdackPort, rdRdataPort_unmapped h, andThen_fault]

theorem pollOnce_unmapped : pollOnce s = .fault .windowNotMapped :=
  rdStatusPort_unmapped (s := tickPort s) h

theorem pollUpTo_unmapped {k : Nat} (hk : 0 < k) : pollUpTo k s = .fault .windowNotMapped := by
  obtain ⟨k, rfl⟩ := Nat.exists_eq_succ_of_ne_zero hk.ne'
  rw [pollUpTo, pollOnce_unmapped h, andThen_fault]

theorem execPoll_unmapped : execPoll s = .fault .windowNotMapped :=
  pollUpTo_unmapped (s := clearPolls s) h (by simp)

theorem execDecode_unmapped : execDecode s = .fault .windowNotMapped := by
  rw [execDecode, rdackPort_unmapped h, andThen_fault]

theorem execStAborting_unmapped : execStAborting s = .fault .windowNotMapped := by
  rw [execStAborting, execAbort, wrPort_unmapped h, andThen_fault]

theorem execStWaitReady_unmapped : execStWaitReady s = .fault .windowNotMapped := by
  rw [execStWaitReady, pollOnce_unmapped h, andThen_fault]

end

/-- Settles O14: each of the sixteen begins with an access, and a port without a window faults. -/
theorem noAccessWithoutWindow : Obligations.NoAccessWithoutWindow := by
  intro s v h
  simp only [List.forall_mem_cons]
  exact ⟨wrPort_unmapped h .ctrl v, rdStatusPort_unmapped h, wrPort_unmapped h .wdata v,
    rdRdataPort_unmapped h (latchOf s.seq), wrPort_unmapped h .rdata 0#32,
    wrPort_unmapped h .ctrl Config.ctrlAbortWord, wrPort_unmapped h .ctrl Config.ctrlGoWord,
    wrPort_unmapped h .wdata s.cfg.headerConst, wrPort_unmapped h .wdata (dwordLength s.chunkSize),
    wrPort_unmapped h .wdata Config.cmdLoad, wrPort_unmapped h .wdata 0#32, rdackPort_unmapped h (latchOf s.seq),
    execDecode_unmapped h, execPoll_unmapped h, execStAborting_unmapped h, execStWaitReady_unmapped h, by simp⟩

end Sys2Proof.Machine

/-! The memory family (spec/20_memory.md): the image fetch, the window and the timebase, effective addresses, and what
keeps the image buffer as the host gave it. -/

namespace Sys2Proof.Machine

/-! ### The image fetch (R34) -/

/-- The four bytes of an assembled word stand in their places, the first one lowest (R34). -/
theorem wordOfBytes_bytes (b0 b1 b2 b3 : Byte) :
    (wordOfBytes b0 b1 b2 b3).extractLsb' 0 8 = b0 ∧ (wordOfBytes b0 b1 b2 b3).extractLsb' 8 8 = b1
    ∧ (wordOfBytes b0 b1 b2 b3).extractLsb' 16 8 = b2 ∧ (wordOfBytes b0 b1 b2 b3).extractLsb' 24 8 = b3 := by
  have peel {n : Nat} (hi : BitVec n) (lo : Byte) (k : Nat) :
      (hi ++ lo).extractLsb' (k + 8) 8 = hi.extractLsb' k 8 :=
    BitVec.extractLsb'_append_eq_of_le (Nat.le_add_left 8 k)
  refine ⟨BitVec.extractLsb'_append_eq_right, ?_, ?_, ?_⟩
  · exact (peel _ b0 0).trans BitVec.extractLsb'_append_eq_right
  · exact (peel _ b0 8).trans ((peel _ b1 0).trans BitVec.extractLsb'_append_eq_right)
  · exact (peel _ b0 16).trans ((peel _ b1 8).trans BitVec.extractLsb'_append_eq_left)

/-- Outside the image a fetch is the model fault U1 (R34). -/
theorem imgPort_outOfBounds {a : Word} {s : State} (h : imageInBounds s.totalSize a = false) :
    imgPort a s = .fault .imageOutOfBounds := by
  simp [imgPort, h]

/-- Settles O15: the fetched dword is its four bytes, the lowest first, and the guard of the port is the bound of R34. -/
theorem imageFetchIsLittleEndian : Obligations.ImageFetchIsLittleEndian := by
  intro s a
  constructor
  · intro hin
    exact ⟨Memory.readDword s.image a.toNat, imgPort_inBounds (decide_eq_true hin), wordOfBytes_bytes ..⟩
  · intro hout
    exact imgPort_outOfBounds (decide_eq_false (Nat.not_lt.2 hout))

/-! ### The window and the timebase (R37, R142) -/

/-- Settles O16: `MAP` is its port, whose next state `mapPort_eq` gives field by field. -/
theorem mapTakesWindowOnOk : Obligations.MapTakesWindowOnOk := fun s => congrArg _ (mapPort_eq s)

/-- Settles O17: the guard of each operation decides between its update and nothing. -/
theorem unmapAndTick : Obligations.UnmapAndTick := by
  intro s
  refine ⟨fun hm => ?_, fun hm => ?_, fun hst => ?_, fun hst => ?_⟩
  · exact congrArg _ (if_pos hm)
  · exact congrArg _ (if_neg (by simp [hm]))
  · exact congrArg _ (if_pos hst)
  · exact congrArg _ (if_neg hst)

/-! ### Effective addresses (R32) -/

/-- The offset of each register is a multiple of 4 inside the window of 16 bytes (R36). -/
theorem regOffset_aligned (r : Reg) : (regOffset r).toNat % 4 = 0 ∧ (regOffset r).toNat ≤ 12 := by
  cases r <;> decide

/-- Where the window ends inside the address space, no effective address wraps (R32, premise P7). -/
theorem regAddr_toNat {b : Addr} (r : Reg) (h : b.toNat + 15 < 2 ^ 64) :
    (regAddr b r).toNat = b.toNat + (regOffset r).toNat := by
  have hle := (regOffset_aligned r).2
  rw [regAddr, BitVec.toNat_add]
  exact Nat.mod_eq_of_lt (by omega)

/-- Settles O18: base and offset add up without wrapping, and both are multiples of 4. -/
theorem effectiveAddressesAligned : Obligations.EffectiveAddressesAligned := by
  intro b halign hwin
  refine ⟨regAddr_toNat .ctrl hwin, regAddr_toNat .status hwin, regAddr_toNat .wdata hwin, regAddr_toNat .rdata hwin,
    fun r => ?_⟩
  rw [regAddr_toNat r hwin, Nat.add_mod, halign, (regOffset_aligned r).1]

/-! ### What no operation writes (R30 b, R41) -/

/-- `t` has the parameters and the image of `s`. -/
structure SameImage (s t : State) : Prop where
  cfg : t.cfg = s.cfg
  image : t.image = s.image

theorem SameImage.refl (s : State) : SameImage s s := ⟨rfl, rfl⟩

theorem SameImage.trans {s t u : State} (h : SameImage s t) (h' : SameImage t u) : SameImage s u where
  cfg := h'.cfg.trans h.cfg
  image := h'.image.trans h.image

theorem SameOperands.sameImage {s t : State} (h : SameOperands s t) : SameImage s t := ⟨h.cfg, h.image⟩

/-- Where `r` answers a next state, it has the parameters and the image of `s`. -/
def KeepsImage (s : State) (r : Res) : Prop := ∀ t, r = .next t → SameImage s t

theorem keepsImage_next {s t : State} : KeepsImage s (.next t) ↔ SameImage s t :=
  ⟨fun h => h t rfl, fun h _ ht => Host.Outcome.next.inj ht ▸ h⟩

theorem keepsImage_fault (s : State) (e : Fault) : KeepsImage s (.fault e) := fun _ ht => nomatch ht

theorem keepsImage_refused (s : State) (e : Refusal) : KeepsImage s (.refused e) := fun _ ht => nomatch ht

/-- A state with the image of `s` may stand in for `s`. -/
theorem SameImage.keepsImage {s t : State} {r : Res} (h : SameImage s t) (hr : KeepsImage t r) : KeepsImage s r :=
  fun _ hu => h.trans (hr _ hu)

/-- A chain keeps the image where both its parts do. -/
theorem KeepsImage.andThen {s : State} {r : Res} {f : State → Res} (hr : KeepsImage s r)
    (hf : ∀ t, KeepsImage t (f t)) : KeepsImage s (andThen r f) := by
  intro u hu
  obtain ⟨t, ht, hu⟩ := andThen_eq_next.1 hu
  exact (hr t ht).trans (hf t u hu)

/-! #### The ports and what is built of them -/

theorem wrPort_keepsImage (r : Reg) (v : Word) (s : State) : KeepsImage s (wrPort r v s) := by
  intro t h
  obtain ⟨-, rfl⟩ := wrPort_eq_next.1 h
  exact ⟨rfl, rfl⟩

theorem rdStatusPort_keepsImage (s : State) : KeepsImage s (rdStatusPort s) := by
  intro t h
  obtain ⟨-, rfl⟩ := rdStatusPort_eq_next.1 h
  rw [afterStatusRead_eq]
  exact ⟨rfl, rfl⟩

theorem rdRdataPort_keepsImage (l : Option Latch) (s : State) : KeepsImage s (rdRdataPort l s) := by
  intro t h
  obtain ⟨-, rfl⟩ := rdRdataPort_eq_next.1 h
  rw [afterRdataRead_eq]
  exact ⟨rfl, rfl⟩

theorem imgPort_keepsImage (a : Word) (s : State) : KeepsImage s (imgPort a s) := by
  intro t h
  obtain ⟨-, rfl⟩ := imgPort_eq_next.1 h
  exact ⟨rfl, rfl⟩

theorem mapPort_sameImage (s : State) : SameImage s (mapPort s) := by
  rw [mapPort_eq]
  exact ⟨rfl, rfl⟩

theorem rdackPort_keepsImage (l : Option Latch) (s : State) : KeepsImage s (rdackPort l s) :=
  (rdRdataPort_keepsImage l s).andThen (wrPort_keepsImage .rdata 0#32)

theorem execStart_keepsImage (b : Addr) (t : Word) (s : State) : KeepsImage s (execStart b t s) := by
  intro u h
  obtain ⟨-, rfl⟩ := execStart_eq_next.1 h
  exact ⟨rfl, rfl⟩

/-! #### The request, the wait and the response -/

theorem payloadDword_keepsImage (i : Nat) (s : State) : KeepsImage s (payloadDword i s) :=
  (imgPort_keepsImage _ s).andThen (wrPort_keepsImage .wdata _)

theorem payloadFrom_keepsImage (k i : Nat) (s : State) : KeepsImage s (payloadFrom k i s) := by
  induction k generalizing i s with
  | zero => exact keepsImage_next.2 (.refl s)
  | succ k ih => exact (payloadDword_keepsImage i s).andThen (ih (i + 1))

theorem execEncode_keepsImage (s : State) : KeepsImage s (execEncode s) := by
  unfold execEncode
  split
  · exact (wrPort_keepsImage .wdata _ s).andThen fun s => (wrPort_keepsImage .wdata _ s).andThen fun s =>
      (wrPort_keepsImage .wdata _ s).andThen fun s => (wrPort_keepsImage .wdata _ s).andThen fun s =>
      (payloadFrom_keepsImage _ 0 s).andThen (wrPort_keepsImage .ctrl _)
  · exact keepsImage_fault _ _

theorem pollOnce_keepsImage (s : State) : KeepsImage s (pollOnce s) :=
  have htick : SameImage s (tickPort s) := ⟨rfl, rfl⟩
  htick.keepsImage (rdStatusPort_keepsImage _)

theorem pollUpTo_keepsImage (k : Nat) (s : State) : KeepsImage s (pollUpTo k s) := by
  induction k generalizing s with
  | zero => exact keepsImage_next.2 (.refl s)
  | succ k ih =>
    refine (pollOnce_keepsImage s).andThen fun t => ?_
    split
    · exact keepsImage_next.2 (.refl t)
    · exact ih t

theorem execPoll_keepsImage (s : State) : KeepsImage s (execPoll s) :=
  have hclear : SameImage s (clearPolls s) := ⟨rfl, rfl⟩
  hclear.keepsImage (pollUpTo_keepsImage _ _)

theorem execDecode_keepsImage (s : State) : KeepsImage s (execDecode s) :=
  have hheader (v : Word) (s : State) : SameImage s (checkHeaderEcho v s) := ⟨rfl, rfl⟩
  have hlength (v : Word) (s : State) : SameImage s (checkLengthEcho v s) := ⟨rfl, rfl⟩
  (rdackPort_keepsImage _ s).andThen fun s =>
  ((hheader _ s).keepsImage (rdackPort_keepsImage _ _)).andThen fun s =>
  ((hlength _ s).keepsImage (rdackPort_keepsImage _ _)).andThen (rdackPort_keepsImage _)

theorem sampledError_sameImage (w : Word) (s : State) : SameImage s (sampledError w s) := by
  unfold sampledError
  split <;> exact ⟨rfl, rfl⟩

theorem sampledPending_sameImage (w : Word) (s : State) : SameImage s (sampledPending w s) := by
  unfold sampledPending
  split <;> exact ⟨rfl, rfl⟩

theorem responseOk_sameImage (s : State) : SameImage s (responseOk s) := by
  unfold responseOk
  split <;> exact ⟨rfl, rfl⟩

/-! #### The whole run (R121) -/

theorem planChunk_sameImage (s : State) : SameImage s (planChunk s) := by
  obtain ⟨-, h⟩ | ⟨-, h⟩ := planChunk_cases s <;> rw [h] <;> exact ⟨rfl, rfl⟩

theorem transaction_keepsImage (s : State) : KeepsImage s (transaction s) := by
  unfold transaction
  split
  · exact keepsImage_next.2 (planChunk_sameImage s)
  · refine ((planChunk_sameImage s).keepsImage (execEncode_keepsImage _)).andThen fun s => ?_
    have hwait : SameImage s (enterWait s) := ⟨rfl, rfl⟩
    refine (hwait.keepsImage (execPoll_keepsImage _)).andThen fun s => ?_
    have hend : SameImage s (endPoll s) := (endPoll_sameOperands s).sameImage
    split
    · exact (hend.keepsImage (execDecode_keepsImage _)).andThen fun s =>
        keepsImage_next.2 (endResponse_sameOperands s).sameImage
    · exact keepsImage_next.2 hend

theorem stageTurns_keepsImage {k : Nat} {s : State} {r : Res} (h : stageTurns k s = some r) : KeepsImage s r := by
  induction k generalizing s with
  | zero => cases h
  | succ k ih =>
    cases ht : transaction s <;> simp only [stageTurns, ht] at h
    case next t =>
      have hst : SameImage s t := transaction_keepsImage s t ht
      split at h
      · exact hst.keepsImage (ih h)
      · cases h
        exact keepsImage_next.2 (hst.trans (finish_sameOperands t).sameImage)
    case fault => cases h; exact keepsImage_fault _ _
    case refused => cases h; exact keepsImage_refused _ _

theorem stageLoop_getD_keepsImage (s : State) (e : Fault) : KeepsImage s ((stageLoop s).getD (.fault e)) := by
  cases h : stageLoop s with
  | none => exact keepsImage_fault s e
  | some r =>
    obtain ⟨k, hk⟩ := stageLoop_eq_some.1 h
    exact stageTurns_keepsImage hk

theorem execStAborting_keepsImage (s : State) : KeepsImage s (execStAborting s) :=
  fun _ h => (execStAborting_sameOperands h).sameImage

theorem stageRun_keepsImage (s : State) : KeepsImage s (stageRun s) := by
  have hinit : SameImage s (initStep s) := (initStep_sameOperands s).sameImage
  unfold stageRun
  split
  · exact keepsImage_next.2 (hinit.trans (finish_sameOperands _).sameImage)
  · exact (hinit.keepsImage (execStAborting_keepsImage _)).andThen fun t => stageLoop_getD_keepsImage t _

/-! #### All operations -/

/-- Every operation but the rule of Idle keeps the parameters and the image. -/
theorem exec_keepsImage {i : Instr} (hi : i ≠ .stIdle) (s : State) : KeepsImage s (exec i s) := by
  cases i with
  | wrCtrl | abort | go => exact wrPort_keepsImage .ctrl _ s
  | wrWdata | reqHeader | reqDwordLength | reqCommandLoad | reqReserved => exact wrPort_keepsImage .wdata _ s
  | wrRdata => exact wrPort_keepsImage .rdata _ s
  | rdStatus => exact rdStatusPort_keepsImage s
  | rdRdata => exact rdRdataPort_keepsImage _ s
  | rdack => exact rdackPort_keepsImage _ s
  | img a => exact imgPort_keepsImage a s
  | map => exact keepsImage_next.2 (mapPort_sameImage s)
  | unmap => exact keepsImage_next.2 ⟨unmapPort_cfg s, unmapPort_image s⟩
  | tick => exact keepsImage_next.2 (by split <;> exact ⟨rfl, rfl⟩)
  | start b t => exact execStart_keepsImage b t s
  | reqPayload k => exact payloadDword_keepsImage _ s
  | encode => exact execEncode_keepsImage s
  | poll => exact execPoll_keepsImage s
  | decode => exact execDecode_keepsImage s
  | stage b t => exact (execStart_keepsImage b t s).andThen stageRun_keepsImage
  | statusError w => exact keepsImage_next.2 (sampledError_sameImage w s)
  | statusPending w => exact keepsImage_next.2 (sampledPending_sameImage w s)
  | flagsRespOk w =>
    have hlatch : SameImage s { s with respFlags := w } := ⟨rfl, rfl⟩
    exact keepsImage_next.2 (hlatch.trans (responseOk_sameImage _))
  | statusReady | respHeaderEcho | respLengthEcho | respNextOffset | respNextOffsetSentinel | flagsRespError
  | done | outcomeNone | outcomeOk | outcomeTimeout | outcomeError => exact keepsImage_next.2 ⟨rfl, rfl⟩
  | stIdle => exact absurd rfl hi
  | stInit => exact keepsImage_next.2 (initStep_sameOperands s).sameImage
  | stAborting => exact execStAborting_keepsImage s
  | stSendChunk => exact fun _ h => (execStSendChunk_sameOperands h).sameImage
  | stWaitReady => exact fun _ h => (execStWaitReady_sameOperands h).sameImage
  | stReadResponse => exact fun _ h => (execStReadResponse_sameOperands h).sameImage
  | stDone | stFailed => exact keepsImage_next.2 (finish_sameOperands s).sameImage

/-- Idle keeps the parameters, and its image is the old one or that of a waiting command (R101, R147). -/
theorem execStIdle_image {s t : State} (h : execStIdle s = .next t) :
    t.cfg = s.cfg ∧ (t.image = s.image ∨ ∃ c ∈ s.hostIn, t.image = c.image) := by
  obtain ⟨-, rfl⟩ | ⟨c, cs, hcs, -, rfl⟩ := execStIdle_cases h
  · exact ⟨rfl, .inl rfl⟩
  · exact ⟨rfl, .inr ⟨c, by simp [hcs], rfl⟩⟩

/-- Settles O48: the ports write neither, every operation but that of Idle is built of them, and Idle takes the image of
the command it accepts. -/
theorem noOperationWritesImage : Obligations.NoOperationWritesImage := by
  intro i s t h
  by_cases hi : i = .stIdle
  · subst hi
    obtain ⟨hcfg, himage⟩ := execStIdle_image h
    exact ⟨hcfg, fun hne => absurd rfl hne, fun _ => himage⟩
  · obtain ⟨hcfg, himage⟩ := exec_keepsImage hi s t h
    exact ⟨hcfg, fun _ a => by rw [himage], fun heq => absurd heq hi⟩

end Sys2Proof.Machine

namespace Sys2Proof.Safety

open Sys2Proof.Machine

/-! ### The image invariant (R30 b, premise P3) -/

theorem imageInv_of_sameOperands {s t : State} (hs : ImageInv s) (hst : s.st ≠ .idle) (ho : SameOperands s t) :
    ImageInv t := by
  obtain ⟨hwf, hbelow⟩ := hs
  rw [ImageInv, ho.image, ho.totalSize]
  exact ⟨hwf, fun _ => hbelow hst⟩

/-- Idle has checked the image it takes against premise P3 (R161). -/
theorem imageInv_execStIdle {s t : State} (hs : ImageInv s) (h : execStIdle s = .next t) : ImageInv t := by
  obtain ⟨-, rfl⟩ | ⟨c, cs, -, hp, rfl⟩ := execStIdle_cases h
  · exact hs
  · obtain ⟨-, -, -, -, -, hwf, hbelow⟩ := startPremiseBroken_eq_none.1 hp
    exact ⟨hwf, fun _ => hbelow⟩

/-- Reset leaves the image where it is and goes to Idle, where its length is not asked for (R160). -/
theorem imageInv_hardReset {s : State} (hs : ImageInv s) : ImageInv (hardReset s) :=
  ⟨hs.1, fun hst => absurd rfl hst⟩

/-- Settles O52: Idle checks the image it takes, and a run leaves the image and its size alone. -/
theorem stepKeepsImageCanonical : Obligations.StepKeepsImageCanonical := by
  intro s t hs h
  cases hr : s.resetIn with
  | true =>
    obtain rfl : hardReset s = t := Host.Outcome.next.inj ((step_of_reset hr).symm.trans h)
    exact imageInv_hardReset hs
  | false =>
    by_cases hst : s.st = .idle
    · rw [step_eq_exec hr, hst] at h
      exact imageInv_execStIdle hs h
    · exact imageInv_of_sameOperands hs hst (step_sameOperands hr hst h)

end Sys2Proof.Safety

/-! The encoding family (spec/30_encoding.md): the bytes of a word and of an address, what each slot's decoder reads from
them, and the classes of a Status word in the decoder and in the poll step. -/

namespace Sys2Proof

open Sys2Proof.Machine

/-! ### Words and addresses as bytes -/

/-- The four bytes of a word, assembled again, are the word. -/
@[simp] theorem wordOfBytes_extractLsb' (w : Word) :
    wordOfBytes (w.extractLsb' 0 8) (w.extractLsb' 8 8) (w.extractLsb' 16 8) (w.extractLsb' 24 8) = w := by
  have join (k n : Nat) : w.extractLsb' (k + 8) n ++ w.extractLsb' k 8 = w.extractLsb' k (n + 8) :=
    BitVec.extractLsb'_append_extractLsb'_eq_extractLsb' rfl
  rw [wordOfBytes, join 16 8, join 8 16, join 0 24, BitVec.extractLsb'_eq_self]

@[simp] theorem oneWord_wordBytes (f : Word → Decoded) (w : Word) : oneWord f (wordBytes w) = f w :=
  congrArg f (wordOfBytes_extractLsb' w)

@[simp] theorem byteAndWord_cons_wordBytes (f : Byte → Word → Decoded) (b : Byte) (w : Word) :
    byteAndWord f (b :: wordBytes w) = f b w :=
  oneWord_wordBytes (f b) w

/-- The two halves of an address, each assembled from its bytes, are the address. -/
@[simp] theorem addrAndWord_addrBytes (f : Addr → Word → Decoded) (a : Addr) (w : Word) :
    addrAndWord f (addrBytes a ++ wordBytes w) = f a w := by
  have halves : a.extractLsb' 32 32 ++ a.extractLsb' 0 32 = a :=
    (BitVec.extractLsb'_append_extractLsb'_eq_extractLsb' rfl).trans BitVec.extractLsb'_eq_self
  unfold addrBytes
  generalize a.extractLsb' 0 32 = lo, a.extractLsb' 32 32 = hi at halves ⊢
  subst halves
  change oneWord (f (wordOfBytes _ _ _ _ ++ wordOfBytes _ _ _ _)) (wordBytes w) = _
  rw [wordOfBytes_extractLsb', wordOfBytes_extractLsb', oneWord_wordBytes]

/-! ### The class of a Status word (R53, R109) -/

/-- The decoder follows the priority of the classification: ERROR, then READY, else Pending. -/
theorem decodeStatus_eq (w : Word) : decodeStatus w =
    if statusErrorSet w = true then .ok (.statusError w)
    else if statusReadySet w = true then .ok (.statusReady w)
    else .ok (.statusPending w) := by
  unfold decodeStatus classify
  cases statusErrorSet w with
  | true => rfl
  | false => cases statusReadySet w <;> rfl

/-- Settles O3: the slot holds one word, and its decoder tests bit 2, then bit 31. -/
theorem statusWordDecodesByPriority : Obligations.StatusWordDecodesByPriority := fun _ w =>
  (oneWord_wordBytes decodeStatus w).trans (decodeStatus_eq w)

/-! ### What the indexed slots hold (R54 to R56) -/

/-- Dword `4 + i` of a request is payload dword `i` whatever its bits are (R54). -/
theorem decodeRequest_payload (c : Config) (i : BitVec 10) (w : Word) :
    decodeRequest c (i.toNat + 4) w = .ok (.reqPayload i) := by
  have hi : i.toNat + 4 < 1028 := Nat.add_lt_add_right i.isLt 4
  simp [decodeRequest, hi]

theorem decodeResponse_next {w : Word} (c : Config) (h : w ≠ Config.terminalSentinel) :
    decodeResponse c 2 w = .ok (.respNextOffset w) := by
  simp [decodeResponse, h]

/-- Dword 3 of a response has the class of its ERROR flag (R56). -/
theorem decodeResponse_flags (c : Config) (w : Word) : decodeResponse c 3 w =
    if respErrorSet c w = true then .ok (.flagsRespError w) else .ok (.flagsRespOk w) := rfl

/-! ### The round trip -/

/-- Settles O1: by operation. The operand of a row comes back from its bytes, and where several rows share a slot, being
well formed is what selects the row. -/
theorem decodeEncodeRoundTrip : Obligations.DecodeEncodeRoundTrip := by
  intro c i hwf
  cases i
  case wrCtrl v =>
    have hv : v = Config.ctrlAbortWord ∨ v = Config.ctrlGoWord := by simpa [Instr.wf] using hwf
    simp [decodeInstr, slotOf, encodeInstr, decodeMmioWrite, hv]
  case wrWdata v => exact byteAndWord_cons_wordBytes decodeMmioWrite 0x8#8 v
  case statusError w =>
    have he : statusErrorSet w = true := hwf
    simp [decodeInstr, slotOf, encodeInstr, decodeStatus_eq, he]
  case statusReady w =>
    obtain ⟨hr, he⟩ : statusReadySet w = true ∧ statusErrorSet w = false := by simpa [Instr.wf] using hwf
    simp [decodeInstr, slotOf, encodeInstr, decodeStatus_eq, hr, he]
  case statusPending w =>
    obtain ⟨hr, he⟩ : statusReadySet w = false ∧ statusErrorSet w = false := by simpa [Instr.wf] using hwf
    simp [decodeInstr, slotOf, encodeInstr, decodeStatus_eq, hr, he]
  case reqHeader =>
    simp [decodeInstr, slotOf, encodeInstr, decodeRequest]
  case reqPayload k => exact (oneWord_wordBytes ..).trans (decodeRequest_payload c k 0#32)
  case respHeaderEcho v => exact oneWord_wordBytes (decodeResponse c 0) v
  case respLengthEcho v => exact oneWord_wordBytes (decodeResponse c 1) v
  case respNextOffset v =>
    have hv : v ≠ Config.terminalSentinel := by simpa [Instr.wf] using hwf
    exact (oneWord_wordBytes ..).trans (decodeResponse_next c hv)
  case flagsRespError w =>
    have he : respErrorSet c w = true := hwf
    simp [decodeInstr, slotOf, encodeInstr, decodeResponse_flags, he]
  case flagsRespOk w =>
    have he : respErrorSet c w = false := by simpa [Instr.wf] using hwf
    simp [decodeInstr, slotOf, encodeInstr, decodeResponse_flags, he]
  case start b t => exact addrAndWord_addrBytes (fun b t => .ok (.start b t)) b t
  case stage b t => exact addrAndWord_addrBytes (fun b t => .ok (.stage b t)) b t
  case img a => exact oneWord_wordBytes (fun a => .ok (.img a)) a
  -- The other rows have no operand: their slot holds fixed bytes.
  all_goals rfl

/-- Settles O2: eleven fixed words, each run through its decoder. -/
theorem specWordsDecode : Obligations.SpecWordsDecode := by
  unfold Obligations.SpecWordsDecode
  decide

end Sys2Proof

namespace Sys2Proof.Machine

/-! ### The poll step reads bits 31 and 2 of its sample alone (R57 c, D27) -/

/-- Two samples of the same class and the same exit end a poll in the same way. -/
theorem endPoll_withSample {s : State} {w : Word} (es : List Event) (hclass : classify w = classify s.lastStatus)
    (hexit : pollExit s.cfg w = pollExit s.cfg s.lastStatus) :
    endPoll { s with lastStatus := w, trace := es } = { endPoll s with lastStatus := w, trace := es } := by
  have hends : waitEnds w { s with lastStatus := w, trace := es } = waitEnds s.lastStatus s :=
    congrArg (· || _) hexit
  unfold endPoll sampledError sampledPending
  simp only [hclass, hends]
  cases classify s.lastStatus with
  | ready => rfl
  | error => cases waitEnds s.lastStatus s <;> rfl
  | timeout => cases waitEnds s.lastStatus s <;> rfl

/-- What one poll leaves that samples the word `w` from the queue, `ws` still to come: the tick and the read of R106. -/
def afterPoll (w : Word) (ws : List Word) (s : State) : State :=
  { s with
    pollCount := s.pollCount + 1#14, statusIn := ws, lastStatus := w
    trace := s.trace ++ [.tick, .rd .status (s.base + 0x4#64) w] }

theorem afterStatusRead_tickPort_cons (s : State) (w : Word) (ws : List Word) :
    afterStatusRead (tickPort { s with statusIn := w :: ws }) = afterPoll w ws s := by
  rw [afterStatusRead_eq]
  simp [afterPoll, tickPort, State.emit, statusAnswer, regAddr, regOffset, Config.offStatus]

/-- With an answer queued, the poll step samples it and ends the poll, exactly while the window is held (R106, R107). -/
theorem execStWaitReady_cons_eq_next {s t : State} {w : Word} {ws : List Word} :
    execStWaitReady { s with statusIn := w :: ws } = .next t ↔ s.mapped = true ∧ t = endPoll (afterPoll w ws s) := by
  constructor
  · intro h
    obtain ⟨hm, rfl⟩ := execStWaitReady_cases h
    exact ⟨hm, by rw [afterStatusRead_tickPort_cons]⟩
  · rintro ⟨hm, rfl⟩
    exact andThen_eq_next.2 ⟨_, pollOnce_eq_next.2 ⟨hm, (afterStatusRead_tickPort_cons s w ws).symm⟩, rfl⟩

/-- Settles O25: the class and the exit of a sample are those of bits 31 and 2. -/
theorem undefinedStatusBitsIgnored : Obligations.UndefinedStatusBitsIgnored := by
  intro s t w w' ws h31 h2 h
  have hready : statusReadySet w' = statusReadySet w := h31.symm
  have herror : statusErrorSet w' = statusErrorSet w := h2.symm
  have hclass : classify w' = classify w := by simp only [classify, hready, herror]
  have hexit : pollExit s.cfg w' = pollExit s.cfg w := by simp only [pollExit, hready, herror]
  obtain ⟨hm, rfl⟩ := execStWaitReady_cons_eq_next.1 h
  exact execStWaitReady_cons_eq_next.2 ⟨hm, (endPoll_withSample (s := afterPoll w ws s) _ hclass hexit).symm⟩

/-! ### The completion report (R61, R111) -/

/-- Settles O32: `donePort` tests the outcome against Ok and records the report. -/
theorem doneReportsOutcome : Obligations.DoneReportsOutcome := fun s =>
  ⟨decide (s.outcome = .ok), decide_eq_true_iff, rfl⟩

end Sys2Proof.Machine

/-! The register port (spec/40_register_port.md): what decodes on the bus, the four registers' accesses one by one, and
that a run issues no other. -/

namespace Sys2Proof

/-! ### What a bus slot decodes to (R51, R71) -/

theorem oneByte_eq_ok {f : Byte → Decoded} {bytes : List Byte} {i : Instr} (h : oneByte f bytes = .ok i) :
    ∃ b, f b = .ok i := by
  unfold oneByte at h
  split at h
  · exact ⟨_, h⟩
  · cases h

theorem oneWord_eq_ok {f : Word → Decoded} {bytes : List Byte} {i : Instr} (h : oneWord f bytes = .ok i) :
    ∃ w, f w = .ok i := by
  unfold oneWord at h
  split at h
  · exact ⟨_, h⟩
  · cases h

theorem byteAndWord_eq_ok {f : Byte → Word → Decoded} {bytes : List Byte} {i : Instr}
    (h : byteAndWord f bytes = .ok i) : ∃ b w, f b w = .ok i := by
  cases bytes with
  | nil => cases h
  | cons b bs => exact ⟨b, oneWord_eq_ok h⟩

/-- A bus read that decodes is one of Status or of Read-data. -/
theorem decodeMmioRead_eq_ok {off : Byte} {i : Instr} (h : decodeMmioRead off = .ok i) :
    i = .rdStatus ∨ i = .rdRdata := by
  unfold decodeMmioRead at h
  split at h
  · cases h; exact .inl rfl
  split at h
  · cases h; exact .inr rfl
  split at h <;> cases h

/-- A bus write that decodes carries a Control word, any Write-data word, or the acknowledge of 0. -/
theorem decodeMmioWrite_eq_ok {off : Byte} {v : Word} {i : Instr} (h : decodeMmioWrite off v = .ok i) :
    (i = .wrCtrl v ∧ (v = Config.ctrlAbortWord ∨ v = Config.ctrlGoWord)) ∨ i = .wrWdata v ∨ i = .wrRdata := by
  unfold decodeMmioWrite at h
  split at h
  · split at h
    · cases h; exact .inl ⟨rfl, ‹_›⟩
    · cases h
  split at h
  · cases h
  split at h
  · cases h; exact .inr (.inl rfl)
  split at h
  · split at h
    · cases h; exact .inr (.inr rfl)
    · cases h
  · cases h

/-- Settles O4: bytes that decode hold an offset, and for a write a word, that the decoder of the slot accepts. -/
theorem onlyFiveBusAccessesDecode : Obligations.OnlyFiveBusAccessesDecode := by
  intro c bytes i
  constructor
  · intro h
    obtain ⟨_, hread⟩ := oneByte_eq_ok h
    exact decodeMmioRead_eq_ok hread
  · intro h
    obtain ⟨_, v, hwrite⟩ := byteAndWord_eq_ok h
    obtain ⟨rfl, rfl | rfl⟩ | rfl | rfl := decodeMmioWrite_eq_ok hwrite
    · exact .inl rfl
    · exact .inr (.inl rfl)
    · exact .inr (.inr (.inr ⟨v, rfl⟩))
    · exact .inr (.inr (.inl rfl))

end Sys2Proof

namespace Sys2Proof.Machine

/-! ### The accesses one by one (R70 to R74) -/

/-- Settles O9: each register write is the port's one write. -/
theorem registerWritesAreOneAccess : Obligations.RegisterWritesAreOneAccess := fun _ _ hm =>
  ⟨wrPort_mapped hm, wrPort_mapped hm, wrPort_mapped hm⟩

/-- Settles O10: both are the port's one write, of the word with their own bit. -/
theorem abortAndGoWriteControlWords : Obligations.AbortAndGoWriteControlWords := fun _ hm =>
  ⟨wrPort_mapped hm, wrPort_mapped hm⟩

/-- Settles O11: `afterStatusRead_eq` gives the state after the read; whether an answer is queued decides which it is. -/
theorem statusReadKeepsSample : Obligations.StatusReadKeepsSample := by
  intro s hm
  have hread : exec .rdStatus s = .next (afterStatusRead s) := rdStatusPort_mapped hm
  rw [hread, afterStatusRead_eq]
  constructor
  · intro w ws hq
    simp [statusAnswer, hq, regAddr, regOffset, Config.offStatus]
  · intro hq
    simp [statusAnswer, hq, regAddr, regOffset, Config.offStatus]

/-- The sub-step `2j` at which latch `j` is filled (R91). -/
def readSubStep : Latch → BitVec 11
  | .header => 0#11
  | .length => 2#11
  | .next => 4#11
  | .flags => 6#11

theorem latchOf_eq_some {q : BitVec 11} {l : Latch} : latchOf q = some l ↔ q = readSubStep l := by
  constructor
  · intro h
    unfold latchOf at h
    repeat' split at h
    all_goals cases h
    all_goals assumption
  · rintro rfl
    cases l <;> rfl

/-- What a read leaves that fills the latch `seq` names, field by field. -/
theorem afterRdataRead_latchOf (s : State) : afterRdataRead (latchOf s.seq) s = { s with
    rdataIn := s.rdataIn.tail, draws := if s.rdataIn = [] then s.draws + 1 else s.draws
    respHeader := if s.seq = 0#11 then rdataAnswer s else s.respHeader
    respLength := if s.seq = 2#11 then rdataAnswer s else s.respLength
    respNext := if s.seq = 4#11 then rdataAnswer s else s.respNext
    respFlags := if s.seq = 6#11 then rdataAnswer s else s.respFlags
    trace := s.trace ++ [.rd .rdata (s.base + 0xC#64) (rdataAnswer s)] } := by
  rw [afterRdataRead_eq]
  simp only [latchOf_eq_some, readSubStep, regAddr, regOffset, Config.offRdata]

/-- Settles O12: the port's one read, into the latch that `seq` names. -/
theorem readDataFillsLatch : Obligations.ReadDataFillsLatch := fun s hm =>
  (rdRdataPort_mapped hm).trans (congrArg _ (afterRdataRead_latchOf s))

/-- Settles O13: the port's one read, then its one write. -/
theorem readAcknowledgeIsAdjacent : Obligations.ReadAcknowledgeIsAdjacent := by
  intro s hm
  refine rdackPort_eq_next.2 ⟨hm, ?_⟩
  rw [afterRdataRead_latchOf, State.emit]
  simp [regAddr, regOffset, Config.offRdata]

end Sys2Proof.Machine

namespace Sys2Proof.Safety

open Sys2Proof.Machine

/-! ### The accesses of a run (R71) -/

section
variable (b : Addr) (v : Word)

@[simp] theorem legalAccess_abort : legalAccess b (.wr .ctrl (regAddr b .ctrl) Config.ctrlAbortWord) = true := by
  simp [legalAccess, Config.ctrlAbortWord, Config.ctrlAbortBit]

@[simp] theorem legalAccess_go : legalAccess b (.wr .ctrl (regAddr b .ctrl) Config.ctrlGoWord) = true := by
  simp [legalAccess, Config.ctrlGoWord, Config.ctrlGoBit]

@[simp] theorem legalAccess_wrWdata : legalAccess b (.wr .wdata (regAddr b .wdata) v) = true := by
  simp [legalAccess]

@[simp] theorem legalAccess_acknowledge : legalAccess b (.wr .rdata (regAddr b .rdata) 0#32) = true := by
  simp [legalAccess]

@[simp] theorem legalAccess_rdStatus : legalAccess b (.rd .status (regAddr b .status) v) = true := by
  simp [legalAccess]

@[simp] theorem legalAccess_rdRdata : legalAccess b (.rd .rdata (regAddr b .rdata) v) = true := by
  simp [legalAccess]

@[simp] theorem legalAccess_img (a : Word) : legalAccess b (.img a v) = true := rfl

@[simp] theorem legalAccess_tick : legalAccess b .tick = true := rfl

end

/-- Every bus access of the trace is one of the five of R71, at its register's address in the window. -/
abbrev AccessesLegal (s : State) : Prop := s.trace.all (legalAccess s.base) = true

/-- The trace of `t` is that of `s` and then events that are legal in the window of `s`. -/
def AddsLegal (s t : State) : Prop := ∃ es, t.trace = s.trace ++ es ∧ es.all (legalAccess s.base) = true

theorem addsLegal_of_trace_eq {s t : State} (h : t.trace = s.trace) : AddsLegal s t := ⟨[], by simp [h], rfl⟩

theorem addsLegal_of_event {s t : State} {e : Event} (h : t.trace = s.trace ++ [e])
    (he : legalAccess s.base e = true) : AddsLegal s t := ⟨[e], h, by simp [he]⟩

theorem AddsLegal.withTrace {s t u : State} (h : AddsLegal s t) (hu : u.trace = t.trace) : AddsLegal s u := by
  unfold AddsLegal
  rwa [hu]

theorem initStep_addsLegal (s : State) : AddsLegal s (initStep s) := by
  have hmap : AddsLegal s (mapPort (clearRun s)) := by
    rw [mapPort_eq]
    exact addsLegal_of_event rfl rfl
  obtain ⟨-, h⟩ | ⟨-, h⟩ := initStep_cases s <;> rw [h] <;> exact hmap.withTrace rfl

theorem execStAborting_addsLegal {s t : State} (h : execStAborting s = .next t) : AddsLegal s t := by
  obtain ⟨-, rfl⟩ := execStAborting_cases h
  exact addsLegal_of_event rfl (legalAccess_abort _)

theorem planChunk_trace (s : State) : (planChunk s).trace = s.trace := by
  obtain ⟨-, h⟩ | ⟨-, h⟩ := planChunk_cases s
  · rw [h, raiseFail_trace]
  · rw [h]

theorem sendSubStep_addsLegal {s t : State} (h : sendSubStep s = .next t) : AddsLegal s t := by
  obtain ⟨-, h⟩ := sendSubStep_cases h
  obtain ⟨-, -, rfl⟩ | ⟨-, rfl⟩ | ⟨-, rfl⟩ | ⟨-, rfl⟩ | ⟨-, -, -, -, -, rfl⟩ | ⟨-, -, -, -, -, rfl⟩ := h
  · exact addsLegal_of_event rfl (legalAccess_wrWdata ..)
  · exact addsLegal_of_event rfl (legalAccess_wrWdata ..)
  · exact addsLegal_of_event rfl (legalAccess_wrWdata ..)
  · exact addsLegal_of_event rfl (legalAccess_wrWdata ..)
  · exact ⟨_, List.append_assoc .., by simp⟩
  · exact addsLegal_of_event rfl (legalAccess_go _)

theorem execStSendChunk_addsLegal {s t : State} (h : execStSendChunk s = .next t) : AddsLegal s t := by
  obtain ⟨-, rfl⟩ | ⟨-, hsub⟩ := execStSendChunk_cases h
  · exact addsLegal_of_trace_eq (planChunk_trace s)
  · exact sendSubStep_addsLegal hsub

theorem endPoll_trace (s : State) : (endPoll s).trace = s.trace := by
  obtain ⟨-, -, h⟩ | ⟨-, h⟩ | ⟨-, -, h⟩ | ⟨-, -, h⟩ := endPoll_cases s <;> rw [h] <;> rfl

theorem execStWaitReady_addsLegal {s t : State} (h : execStWaitReady s = .next t) : AddsLegal s t := by
  obtain ⟨-, rfl⟩ := execStWaitReady_cases h
  have hpoll : AddsLegal s (afterStatusRead (tickPort s)) := by
    rw [afterStatusRead_eq]
    exact ⟨_, List.append_assoc .., by simp⟩
  exact hpoll.withTrace (endPoll_trace _)

theorem endResponse_trace (s : State) : (endResponse s).trace = s.trace := by
  obtain ⟨-, h⟩ | ⟨-, -, h⟩ | ⟨-, -, h⟩ := endResponse_cases s <;> rw [h] <;> rfl

theorem execStReadResponse_addsLegal {s t : State} (h : execStReadResponse s = .next t) : AddsLegal s t := by
  obtain ⟨-, ⟨-, rfl⟩ | ⟨-, rfl⟩ | ⟨-, rfl⟩⟩ := execStReadResponse_cases h
  · rw [checkEcho_eq, afterRdataRead_eq]
    exact addsLegal_of_event rfl (legalAccess_rdRdata ..)
  · exact addsLegal_of_event rfl (legalAccess_acknowledge _)
  · exact addsLegal_of_event (endResponse_trace _) (legalAccess_acknowledge _)

theorem finish_addsLegal (s : State) : AddsLegal s (finish s) := by
  rw [finish_eq]
  exact ⟨_, List.append_assoc .., by cases s.mapped <;> rfl⟩

theorem accessesLegal_hardReset (s : State) : AccessesLegal (hardReset s) := rfl

/-- Idle rests, or begins the trace anew with `START`, which is no access (R101). -/
theorem accessesLegal_execStIdle {s t : State} (hs : AccessesLegal s) (h : execStIdle s = .next t) :
    AccessesLegal t := by
  obtain ⟨-, rfl⟩ | ⟨c, cs, -, -, rfl⟩ := execStIdle_cases h
  · exact hs
  · rfl

/-- Where the window stays and only legal events are added, every access of the trace is still legal. -/
theorem AccessesLegal.extend {s t : State} (hs : AccessesLegal s) (hadds : AddsLegal s t) (hsame : SameOperands s t) :
    AccessesLegal t := by
  obtain ⟨es, ht, hes⟩ := hadds
  rw [AccessesLegal, ht, hsame.base, List.all_append, hs, hes, Bool.and_self]

/-- Settles O53: reset empties the trace, Idle begins it anew, and every other rule keeps the window and adds legal
events. -/
theorem onlyLegalAccessesAreIssued : Obligations.OnlyLegalAccessesAreIssued := by
  intro s t (hs : AccessesLegal s) h
  exact step_elim (P := AccessesLegal) h
    (reset := fun _ => accessesLegal_hardReset s)
    (idle := fun _ => accessesLegal_execStIdle hs)
    (init := fun _ => hs.extend (initStep_addsLegal s) (initStep_sameOperands s))
    (aborting := fun _ h => hs.extend (execStAborting_addsLegal h) (execStAborting_sameOperands h))
    (sendChunk := fun _ h => hs.extend (execStSendChunk_addsLegal h) (execStSendChunk_sameOperands h))
    (waitReady := fun _ h => hs.extend (execStWaitReady_addsLegal h) (execStWaitReady_sameOperands h))
    (readResponse := fun _ h => hs.extend (execStReadResponse_addsLegal h) (execStReadResponse_sameOperands h))
    (finishing := fun _ => hs.extend (finish_addsLegal s) (finish_sameOperands s))

end Sys2Proof.Safety

/-! The request encoder (spec/41_request_encoder.md): the header words, a payload dword inside and outside the image, and
`ENCODE` as the events it records. -/

namespace Sys2Proof.Config

/-! ### The header word (R5, R58) -/

theorem headerConst_low (c : Config) : c.headerConst.extractLsb' 0 16 = c.vendorId := by
  ext k hk
  have hk32 : k < 32 := by omega
  simp [headerConst, hk, hk32]

theorem headerConst_high (c : Config) : c.headerConst.extractLsb' 16 16 = c.objectType := by
  ext k hk
  have hk32 : 16 + k < 32 := by omega
  simp [headerConst, hk32, hk]

end Sys2Proof.Config

namespace Sys2Proof.Machine

/-! ### Recording events in order (R8, R20) -/

/-- The state with the events `es` recorded after those of `s`, in order. -/
def State.emits (s : State) (es : List Event) : State := { s with trace := s.trace ++ es }

@[simp] theorem State.emits_nil (s : State) : s.emits [] = s := by
  simp [State.emits]

@[simp] theorem State.emits_emits (s : State) (es fs : List Event) : (s.emits es).emits fs = s.emits (es ++ fs) := by
  simp [State.emits]

theorem State.emit_eq_emits (s : State) (e : Event) : s.emit e = s.emits [e] := rfl

/-- With the window held, a write records its one event after the others (R70). -/
theorem wrPort_emits {s : State} (hm : s.mapped = true) (es : List Event) (r : Reg) (v : Word) :
    wrPort r v (s.emits es) = .next (s.emits (es ++ [.wr r (regAddr s.base r) v])) := by
  rw [← State.emits_emits]
  exact wrPort_mapped hm

/-! ### The header dwords (R81 to R84) -/

/-- Settles O19: the two halves of the header word do not overlap, and each dword is the port's one write. -/
theorem requestHeaderWords : Obligations.RequestHeaderWords := by
  intro s hm
  exact ⟨s.cfg.headerConst_low, s.cfg.headerConst_high, wrPort_mapped hm, wrPort_mapped hm, wrPort_mapped hm,
    wrPort_mapped hm⟩

end Sys2Proof.Machine

namespace Sys2Proof.Safety

open Sys2Proof.Machine

/-! ### The payload (R85) -/

/-- Payload dword `i` of the state's offset lies inside the image (R34). -/
abbrev DwordInImage (s : State) (i : Nat) : Prop := (payloadAddr s.offset i).toNat + 3 < s.totalSize.toNat

/-- Inside the image, with the window held, a payload dword records its fetch and its write. -/
theorem payloadDword_inImage {s : State} {i : Nat} (hm : s.mapped = true) (hin : DwordInImage s i) :
    payloadDword i s = .next (s.emits (payloadEvents s i)) :=
  payloadDword_eq_next.2 ⟨decide_eq_true hin, hm, by simp [State.emit_eq_emits, payloadEvents]⟩

/-- Outside the image the fetch is the model fault U1, window or not. -/
theorem payloadDword_outOfImage {s : State} {i : Nat} (hout : ¬ DwordInImage s i) :
    payloadDword i s = .fault .imageOutOfBounds := by
  rw [payloadDword, imgPort_outOfBounds (decide_eq_false hout), andThen_fault]

/-- Settles O20: the address of payload dword `i` decides between the pair and the fault. -/
theorem payloadDwordIsFetchedThenWritten : Obligations.PayloadDwordIsFetchedThenWritten := by
  rintro s i _ rfl
  constructor
  · intro hm hin
    exact payloadDword_inImage hm hin
  · intro hout
    exact payloadDword_outOfImage (Nat.not_lt.2 hout)

@[simp] theorem payloadEvents_emits (s : State) (es : List Event) : payloadEvents (s.emits es) = payloadEvents s := rfl

/-- With the window held, `k` payload dwords from `i` on, all inside the image, record their pairs in increasing order. -/
theorem payloadFrom_inImage {k i : Nat} {s : State} (hm : s.mapped = true)
    (hin : ∀ j ∈ List.range' i k, DwordInImage s j) :
    payloadFrom k i s = .next (s.emits ((List.range' i k).flatMap (payloadEvents s))) := by
  induction k generalizing i s with
  | zero => simp [payloadFrom]
  | succ k ih =>
    obtain ⟨hfirst, hrest⟩ := List.forall_mem_cons.1 hin
    have hnext := ih (s := s.emits (payloadEvents s i)) hm hrest
    rw [payloadFrom, payloadDword_inImage hm hfirst, andThen_next, hnext, State.emits_emits,
      payloadEvents_emits, List.range'_succ, List.flatMap_cons]

/-- With the window held, payload dwords of which one lies outside the image end in the model fault U1. -/
theorem payloadFrom_outOfImage {k i : Nat} {s : State} (hm : s.mapped = true)
    (hout : ¬ ∀ j ∈ List.range' i k, DwordInImage s j) : payloadFrom k i s = .fault .imageOutOfBounds := by
  induction k generalizing i s with
  | zero => simp at hout
  | succ k ih =>
    by_cases hfirst : DwordInImage s i
    · have hrest : ¬ ∀ j ∈ List.range' (i + 1) k, DwordInImage s j :=
        fun h => hout (List.forall_mem_cons.2 ⟨hfirst, h⟩)
      rw [payloadFrom, payloadDword_inImage hm hfirst, andThen_next]
      exact ih (s := s.emits (payloadEvents s i)) hm hrest
    · rw [payloadFrom, payloadDword_outOfImage hfirst, andThen_fault]

/-- The bound of the whole request, as the payload is walked. -/
theorem requestInImage_iff (s : State) :
    RequestInImage s ↔ ∀ j ∈ List.range' 0 (payloadCount s.chunkSize), DwordInImage s j := by
  simp [RequestInImage, payloadCount, ← List.range_eq_range']

/-! ### The whole request (R80, R87, R88) -/

/-- The four writes a request begins with (R81 to R84). -/
def headerEvents (s : State) : List Event :=
  [.wr .wdata (regAddr s.base .wdata) s.cfg.headerConst,
    .wr .wdata (regAddr s.base .wdata) (dwordLength s.chunkSize),
    .wr .wdata (regAddr s.base .wdata) Config.cmdLoad,
    .wr .wdata (regAddr s.base .wdata) 0#32]

theorem requestEvents_eq (s : State) : requestEvents s =
    headerEvents s ++ (List.range' 0 (payloadCount s.chunkSize)).flatMap (payloadEvents s)
      ++ [.wr .ctrl (regAddr s.base .ctrl) Config.ctrlGoWord] := by
  rw [← List.range_eq_range']
  rfl

/-- With the window held, `ENCODE` of whole dwords is the header's four writes, then the payload, then `GO`. -/
theorem execEncode_dwords {s : State} (hm : s.mapped = true) (hdwords : s.chunkSize.toNat % 4 = 0) :
    execEncode s = andThen (payloadFrom (payloadCount s.chunkSize) 0 (s.emits (headerEvents s))) execGo := by
  rw [execEncode, chunkIsDwords, if_pos (decide_eq_true hdwords)]
  simp only [execReqHeader, execReqDwordLength, execReqCommandLoad, execReqReserved, wrPort_mapped hm,
    State.emit_eq_emits, andThen_next, wrPort_emits hm]
  rfl

/-- Settles O21: the header's writes, the payload by induction on its dwords, and the write of `GO`. -/
theorem encodeIssuesWholeRequest : Obligations.EncodeIssuesWholeRequest := by
  intro s hm hdwords hin
  have hpayload := payloadFrom_inImage (s := s.emits (headerEvents s)) hm ((requestInImage_iff s).1 hin)
  calc execEncode s
    _ = execGo ((s.emits (headerEvents s)).emits _) := by
      rw [execEncode_dwords hm hdwords, hpayload, andThen_next]
    _ = .next (s.emits (requestEvents s)) := by
      rw [State.emits_emits, execGo, wrPort_emits hm, payloadEvents_emits, requestEvents_eq]

/-- Settles O22: the check of the chunk size stands before any write, and the payload reaches a dword outside the image. -/
theorem encodeModelFaults : Obligations.EncodeModelFaults := by
  intro s
  constructor
  · intro hdwords
    exact if_neg (by simpa [chunkIsDwords] using hdwords)
  · intro hm hdwords hout
    have hpayload := payloadFrom_outOfImage (s := s.emits (headerEvents s)) hm (mt (requestInImage_iff s).2 hout)
    exact (execEncode_dwords hm hdwords).trans (by rw [hpayload, andThen_fault])

end Sys2Proof.Safety

/-! The response decoder (spec/42_response_decoder.md): the echo checks, the result of the flags word, `DECODE` as its four
read-acknowledges, and the sub-steps of ReadResponse. -/

namespace Sys2Proof.Machine

/-! ### The echo checks (R92) -/

/-- A sticky warning after the comparison of `v` with what is expected: kept where they agree, else set. -/
theorem stickyWarning_eq (warned : Bool) (v expected : Word) :
    (warned || v != expected) = if v = expected then warned else true := by
  by_cases h : v = expected <;> simp [h]

theorem checkHeaderEcho_eq (v : Word) (s : State) : checkHeaderEcho v s = { s with
    respHeader := v, warnHdr := if v = s.cfg.headerConst then s.warnHdr else true } := by
  rw [checkHeaderEcho, stickyWarning_eq]

theorem checkLengthEcho_eq (v : Word) (s : State) : checkLengthEcho v s = { s with
    respLength := v, warnLen := if v = s.cfg.respLenExpected then s.warnLen else true } := by
  rw [checkLengthEcho, stickyWarning_eq]

/-- Settles O26: each row is its echo check. -/
theorem echoMismatchOnlyWarns : Obligations.EchoMismatchOnlyWarns := fun s v =>
  ⟨congrArg _ (checkHeaderEcho_eq v s), congrArg _ (checkLengthEcho_eq v s)⟩

/-! ### The result (R93, R110) -/

/-- The latched sentinel ends the loop with Ok. -/
theorem responseOk_sentinel {s : State} (h : s.respNext = Config.terminalSentinel) : responseOk s = { s with
    offset := Config.terminalSentinel, outcome := .ok, st := .done, seq := 0#11 } := by
  rw [responseOk, if_pos h, endOfImage, ← h]

/-- Any other latched next offset is assigned, and the loop goes on. -/
theorem responseOk_nextOffset {s : State} (h : s.respNext ≠ Config.terminalSentinel) : responseOk s = { s with
    offset := s.respNext, st := .sendChunk, seq := 0#11 } := by
  rw [responseOk, if_neg h, nextChunk]

/-- Settles O28: the two classes of a flags word, the second by the latched next offset. -/
theorem flagsDecideResult : Obligations.FlagsDecideResult := by
  intro s w
  refine ⟨rfl, fun hnext => ?_, fun hnext => ?_⟩
  · exact congrArg _ (responseOk_nextOffset (s := { s with respFlags := w }) hnext)
  · exact congrArg _ (responseOk_sentinel (s := { s with respFlags := w }) hnext)

/-! ### `DECODE` (R90) -/

/-- `s`, with the answers that Read-data has still to give in `e` (R25). -/
def State.withRdataOf (s e : State) : State := { s with rdataIn := e.rdataIn, draws := e.draws }

theorem afterRdataAnswer_withRdataOf (s e : State) :
    afterRdataAnswer (s.withRdataOf e) = s.withRdataOf (afterRdataAnswer e) := by
  unfold afterRdataAnswer
  cases h : e.rdataIn <;> simp [State.withRdataOf, h]

theorem rdataAnswer_withRdataOf (s e : State) : rdataAnswer (s.withRdataOf e) = rdataAnswer e := rfl

/-- What a read-acknowledge of the value `v` leaves beside the answers: the value latched and the two events recorded. -/
def afterRdack (l : Latch) (v : Word) (s : State) : State :=
  (s.setLatch l v).emits [.rd .rdata (regAddr s.base .rdata) v, .wr .rdata (regAddr s.base .rdata) 0#32]

@[simp] theorem afterRdack_mapped (l : Latch) (v : Word) (s : State) : (afterRdack l v s).mapped = s.mapped :=
  State.setLatch_mapped s l v

/-- With the window held, a read-acknowledge latches the next answer and uses it up (R73). -/
theorem rdackPort_withRdataOf {s e e' : State} {v : Word} (l : Latch) (hm : s.mapped = true) (hv : v = rdataAnswer e)
    (he : e' = afterRdataAnswer e) :
    rdackPort (some l) (s.withRdataOf e) = .next ((afterRdack l v s).withRdataOf e') := by
  refine rdackPort_eq_next.2 ⟨hm, ?_⟩
  rw [afterRdataRead, afterRdataAnswer_withRdataOf, rdataAnswer_withRdataOf, ← hv, ← he]
  cases l <;> simp [afterRdack, State.withRdataOf, State.setLatch?, State.setLatch, State.emits, State.emit]

/-- The header word read and acknowledged, then its echo checked. -/
def afterHeaderEcho (v : Word) (s : State) : State := checkHeaderEcho v (afterRdack .header v s)

/-- The length word read and acknowledged, then its echo checked. -/
def afterLengthEcho (v : Word) (s : State) : State := checkLengthEcho v (afterRdack .length v s)

@[simp] theorem afterHeaderEcho_mapped (v : Word) (s : State) : (afterHeaderEcho v s).mapped = s.mapped := rfl

@[simp] theorem afterLengthEcho_mapped (v : Word) (s : State) : (afterLengthEcho v s).mapped = s.mapped := rfl

/-- The echo check of the header latch compares the word just read and leaves the answers to come. -/
theorem checkHeaderEcho_afterRdack (v : Word) (s e : State) :
    checkHeaderEcho ((afterRdack .header v s).withRdataOf e).respHeader ((afterRdack .header v s).withRdataOf e)
      = (afterHeaderEcho v s).withRdataOf e := rfl

theorem checkLengthEcho_afterRdack (v : Word) (s e : State) :
    checkLengthEcho ((afterRdack .length v s).withRdataOf e).respLength ((afterRdack .length v s).withRdataOf e)
      = (afterLengthEcho v s).withRdataOf e := rfl

/-- Settles O29: four read-acknowledges, each taking the answer after the one before, with the echo checks between. -/
theorem decodeReadsFourWords : Obligations.DecodeReadsFourWords := by
  intro s s1 s2 s3 s4 h l n f hm hh h1 hl h2 hn h3 hf h4
  have header : rdackPort (some .header) s = .next ((afterRdack .header h s).withRdataOf s1) :=
    rdackPort_withRdataOf .header hm hh h1
  have length := rdackPort_withRdataOf (s := afterHeaderEcho h s) .length (by simp [hm]) hl h2
  have next := rdackPort_withRdataOf (s := afterLengthEcho l (afterHeaderEcho h s)) .next (by simp [hm]) hn h3
  have flags := rdackPort_withRdataOf (s := afterRdack .next n (afterLengthEcho l (afterHeaderEcho h s))) .flags
    (by simp [hm]) hf h4
  calc execDecode s
    _ = .next ((afterRdack .flags f (afterRdack .next n (afterLengthEcho l (afterHeaderEcho h s)))).withRdataOf s4) := by
      rw [execDecode, header, andThen_next, checkHeaderEcho_afterRdack, length, andThen_next, checkLengthEcho_afterRdack,
        next, andThen_next, flags]
    _ = _ := by
      simp [afterRdack, afterLengthEcho, afterHeaderEcho, checkLengthEcho, checkHeaderEcho, State.withRdataOf,
        State.setLatch, State.emits, regAddr, regOffset, Config.offRdata]

/-! ### The sub-steps of ReadResponse (R91, R93, R110) -/

/-- At `seq = 2j`, with the window held: one read into latch `j`, then the check of the echo it holds, field by field. -/
theorem execStReadResponse_read {s : State} {l : Latch} (hm : s.mapped = true) (hq : s.seq = readSubStep l) :
    execStReadResponse s = .next { s with
      rdataIn := s.rdataIn.tail, draws := if s.rdataIn = [] then s.draws + 1 else s.draws
      trace := s.trace ++ [.rd .rdata (s.base + 0xC#64) (rdataAnswer s)], seq := s.seq + 1#11
      respHeader := if l = .header then rdataAnswer s else s.respHeader
      respLength := if l = .length then rdataAnswer s else s.respLength
      respNext := if l = .next then rdataAnswer s else s.respNext
      respFlags := if l = .flags then rdataAnswer s else s.respFlags
      warnHdr := if l = .header then (if rdataAnswer s = s.cfg.headerConst then s.warnHdr else true) else s.warnHdr
      warnLen := if l = .length then (if rdataAnswer s = s.cfg.respLenExpected then s.warnLen else true)
        else s.warnLen } := by
  have heven : s.seq = 0#11 ∨ s.seq = 2#11 ∨ s.seq = 4#11 ∨ s.seq = 6#11 := by
    rw [hq]
    cases l <;> decide
  rw [execStReadResponse, if_pos heven, execRdRdata, latchOf_eq_some.2 hq, rdRdataPort_mapped hm, andThen_next,
    afterRdataRead_eq, checkEcho_eq]
  cases l <;> simp [hq, readSubStep, State.advance, stickyWarning_eq, regAddr, regOffset, Config.offRdata]

/-- Settles O42: each even sub-step is the read of its latch. -/
theorem readResponseReads : Obligations.ReadResponseReads := by
  rintro s _ _ hm rfl rfl
  exact ⟨execStReadResponse_read (l := .header) hm, execStReadResponse_read (l := .length) hm,
    execStReadResponse_read (l := .next) hm, execStReadResponse_read (l := .flags) hm⟩

/-- At `seq` 1, 3 and 5, with the window held, one acknowledge. -/
theorem execStReadResponse_acknowledge {s : State} (hm : s.mapped = true)
    (hq : s.seq = 1#11 ∨ s.seq = 3#11 ∨ s.seq = 5#11) :
    execStReadResponse s = .next (s.emit (.wr .rdata (regAddr s.base .rdata) 0#32)).advance := by
  have hodd : ¬ (s.seq = 0#11 ∨ s.seq = 2#11 ∨ s.seq = 4#11 ∨ s.seq = 6#11) := by
    rcases hq with hq | hq | hq <;> rw [hq] <;> decide
  rw [execStReadResponse, if_neg hodd, if_pos hq, execWrRdata, wrPort_mapped hm]
  rfl

/-- At `seq` 7, with the window held, the last acknowledge and the end of the response. -/
theorem execStReadResponse_lastAcknowledge {s : State} (hm : s.mapped = true) (hq : s.seq = 7#11) :
    execStReadResponse s = .next (endResponse (s.emit (.wr .rdata (regAddr s.base .rdata) 0#32))) := by
  simp [execStReadResponse, hq, execWrRdata, wrPort_mapped hm]

/-- The end of a response as one case distinction: ERROR before the sentinel (R93, R110). -/
theorem endResponse_eq (s : State) : endResponse s =
    if s.respFlags.getLsbD s.cfg.respErrorBit.val = true then { s with outcome := .error, st := .failed, seq := 0#11 }
    else if s.respNext = Config.terminalSentinel then
      { s with offset := Config.terminalSentinel, outcome := .ok, st := .done, seq := 0#11 }
    else { s with offset := s.respNext, st := .sendChunk, seq := 0#11 } := by
  rw [endResponse, respErrorSet]
  by_cases hnext : s.respNext = Config.terminalSentinel
  · rw [if_pos hnext, responseOk_sentinel hnext]
    rfl
  · rw [if_neg hnext, responseOk_nextOffset hnext]
    rfl

/-- Settles O43: the acknowledge of each odd sub-step, and after the last one the end of the response. -/
theorem readResponseAcknowledges : Obligations.ReadResponseAcknowledges := by
  rintro s _ hm rfl
  constructor
  · intro hq
    exact execStReadResponse_acknowledge hm hq
  · intro hq
    exact (execStReadResponse_lastAcknowledge hm hq).trans (congrArg _ (endResponse_eq _))

end Sys2Proof.Machine

/-! The transaction coordinator (spec/43_transaction_coordinator.md), its step rules one by one: the idle rule and the
host command, Init, Aborting, the planning step, the sub-steps of the request, the poll step and the finishing step. -/

namespace Sys2Proof.Machine

open Sys2Proof.Safety

/-! ### Idle and the host command (R101, R146, R161) -/

/-- Settles O8: with an empty queue the rule of Idle answers the state it was given. -/
theorem idleRestsWithoutCommand : Obligations.IdleRestsWithoutCommand := by
  intro s hhost
  have hrest : exec .stIdle s = .next s := by
    change execStIdle s = .next s
    rw [execStIdle, hhost]
  refine ⟨hrest, fun hst hr => ?_⟩
  rw [step_eq_exec hr, hst]
  exact hrest

/-- Under its premises `START` is accepted. -/
theorem execStart_of_premises {b : Addr} {t : Word} {s : State} (h : StartPremises b t s) :
    execStart b t s = .next (acceptStart b t s) :=
  execStart_eq_next.2 ⟨startPremiseBroken_eq_none.2 h, rfl⟩

/-- A `START` that breaks one of its premises is refused. -/
theorem execStart_refused {b : Addr} {t : Word} {s : State} (h : ¬ StartPremises b t s) :
    ∃ r, execStart b t s = .refused r := by
  obtain ⟨r, hr⟩ := Option.ne_none_iff_exists'.1 (mt startPremiseBroken_eq_none.1 h)
  exact ⟨r, by rw [execStart, hr]⟩

/-- Settles O30: `START` is accepted exactly under its premises. -/
theorem startLatchesOperands : Obligations.StartLatchesOperands := fun _ _ _ =>
  ⟨execStart_of_premises, execStart_refused⟩

/-- With a command waiting, Idle is its `START`, on the state without the command and with its image. -/
theorem execStIdle_cons {s : State} {c : HostCommand} {cs : List HostCommand} (h : s.hostIn = c :: cs) :
    execStIdle s = execStart c.base c.totalSize { s with hostIn := cs, image := c.image } := by
  rw [execStIdle, h]

/-- Settles O31: Idle runs the `START` of the command, whose premises do not speak of the queue. -/
theorem idleTakesCommand : Obligations.IdleTakesCommand := by
  intro s c cs hhost
  constructor
  · intro hprem
    exact (execStIdle_cons hhost).trans (execStart_of_premises (s := { s with hostIn := cs, image := c.image }) hprem)
  · intro hbroken
    obtain ⟨r, hr⟩ := execStart_refused (s := { s with hostIn := cs, image := c.image }) hbroken
    exact ⟨r, (execStIdle_cons hhost).trans hr⟩

/-! ### Init and Aborting (R102, R103) -/

/-- Settles O35: the two answers of `MAP`. -/
theorem initMapsOrFails : Obligations.InitMapsOrFails := by
  intro s
  have hclear : mapAnswer (clearRun s) = mapAnswer s := rfl
  constructor
  · intro hok
    change Host.Outcome.next (initStep s) = _
    rw [initStep, hok, mapPort_eq, hclear, hok]
    rfl
  · intro hfail
    change Host.Outcome.next (initStep s) = _
    rw [initStep, hfail, mapPort_eq, hclear, hfail]
    rfl

theorem execStAborting_mapped {s : State} (hm : s.mapped = true) :
    execStAborting s = .next ((s.emit (.wr .ctrl (regAddr s.base .ctrl) Config.ctrlAbortWord)).goto .sendChunk) := by
  rw [execStAborting, execAbort, wrPort_mapped hm, andThen_next]

/-- Settles O36: the one write of the rule and its move. -/
theorem abortingIssuesAbort : Obligations.AbortingIssuesAbort := fun _ hm => execStAborting_mapped hm

/-! ### The planning step (R104, R113 to R116) -/

theorem execStSendChunk_plan {s : State} (hq : s.seq = 0#11) : execStSendChunk s = .next (planChunk s) := if_pos hq

theorem planChunk_eq (s : State) : planChunk s =
    if s.bytesTransferred.toNat + (chunkSizeOf s.totalSize s.offset).toNat > 2 * s.totalSize.toNat then
      { s with chunkSize := chunkSizeOf s.totalSize s.offset, outcome := .timeout, st := .failed, seq := 0#11 }
    else { s with chunkSize := chunkSizeOf s.totalSize s.offset, seq := 1#11 } := by
  simp [planChunk, overBudget, Config.budgetFactor, raiseFail, FailKind.outcome]

/-- Settles O37: the chunk is that of `chunkSizeOf`, and the budget is compared in the naturals. -/
theorem planningChecksBudget : Obligations.PlanningChecksBudget := fun s hq =>
  ⟨chunkSizeOf s.totalSize s.offset, chunkSizeOf_toNat _ _,
    (execStSendChunk_plan hq).trans (congrArg _ (planChunk_eq s))⟩

/-- Settles O38: the wrapped subtraction in its two cases. -/
theorem chunkSizeArithmetic : Obligations.ChunkSizeArithmetic := by
  intro t o
  rw [chunkSizeOf_toNat, BitVec.toNat_sub]
  omega

/-- Within the budget the planning step goes on to the request. -/
theorem planChunk_withinBudget {s : State} {c : BitVec 13} (hc : chunkSizeOf s.totalSize s.offset = c)
    (hbudget : s.bytesTransferred.toNat + c.toNat ≤ 2 * s.totalSize.toNat) :
    planChunk s = { s with chunkSize := c, seq := 1#11 } := by
  rw [planChunk_eq, hc, if_neg (Nat.not_lt.2 hbudget)]

/-- Settles O39: `totalSize - offset` is 0, and an empty chunk adds nothing to the budget. -/
theorem zeroLengthChunkIsPlanned : Obligations.ZeroLengthChunkIsPlanned := by
  intro s hq hoff hbudget
  have hempty : chunkSizeOf s.totalSize s.offset = 0#13 := by
    rw [hoff, chunkSizeOf, BitVec.sub_self]
    rfl
  exact (execStSendChunk_plan hq).trans (congrArg _ (planChunk_withinBudget hempty hbudget))

/-! ### The sub-steps of the request (R105) -/

theorem execStSendChunk_subStep {s : State} (hq : s.seq ≠ 0#11) : execStSendChunk s = sendSubStep s := if_neg hq

/-- A sub-step that records the events `es` and goes one sub-step further. -/
theorem subStep_next_emits (s : State) (es : List Event) :
    subStep (.next (s.emits es)) = .next { s with trace := s.trace ++ es, seq := s.seq + 1#11 } := rfl

/-- A sub-step that writes one register, with the window held. -/
theorem subStep_wrPort {s : State} (hm : s.mapped = true) (r : Reg) (v : Word) : subStep (wrPort r v s) =
    .next { s with trace := s.trace ++ [.wr r (regAddr s.base r) v], seq := s.seq + 1#11 } := by
  rw [wrPort_mapped hm]
  rfl

section
variable {s : State} (hm : s.mapped = true)
include hm

theorem sendSubStep_header (hq : s.seq = 1#11) (hdwords : s.chunkSize.toNat % 4 = 0) : sendSubStep s = .next { s with
    trace := s.trace ++ [.wr .wdata (regAddr s.base .wdata) s.cfg.headerConst], seq := s.seq + 1#11 } := by
  rw [sendSubStep, if_pos hq, chunkIsDwords, if_pos (decide_eq_true hdwords), execReqHeader, subStep_wrPort hm]

theorem sendSubStep_length (hq : s.seq = 2#11) : sendSubStep s = .next { s with
    trace := s.trace ++ [.wr .wdata (regAddr s.base .wdata) (dwordLength s.chunkSize)], seq := s.seq + 1#11 } := by
  rw [sendSubStep, if_neg (by simp [hq]), if_pos hq, execReqDwordLength, subStep_wrPort hm]

theorem sendSubStep_command (hq : s.seq = 3#11) : sendSubStep s = .next { s with
    trace := s.trace ++ [.wr .wdata (regAddr s.base .wdata) Config.cmdLoad], seq := s.seq + 1#11 } := by
  rw [sendSubStep, if_neg (by simp [hq]), if_neg (by simp [hq]), if_pos hq, execReqCommandLoad, subStep_wrPort hm]

theorem sendSubStep_reserved (hq : s.seq = 4#11) : sendSubStep s = .next { s with
    trace := s.trace ++ [.wr .wdata (regAddr s.base .wdata) 0#32], seq := s.seq + 1#11 } := by
  rw [sendSubStep, if_neg (by simp [hq]), if_neg (by simp [hq]), if_neg (by simp [hq]), if_pos hq, execReqReserved,
    subStep_wrPort hm]

end

/-- A chunk that is no whole number of dwords is the model fault U2 at the first sub-step (R88). -/
theorem sendSubStep_notDwords {s : State} (hq : s.seq = 1#11) (hdwords : s.chunkSize.toNat % 4 ≠ 0) :
    sendSubStep s = .fault .chunkNotDwordMultiple := by
  rw [sendSubStep, if_pos hq, chunkIsDwords, if_neg (by simpa using hdwords)]

/-- After the header, `seq = 5 + i` stands for payload dword `i`, or for `GO` where `i` is their number. -/
theorem sendSubStep_afterHeader {s : State} {i : Nat} (hq : s.seq.toNat = 5 + i) : sendSubStep s =
    if i < payloadCount s.chunkSize then subStep (payloadDword i s)
    else if i = payloadCount s.chunkSize then andThen (execGo s) fun t => .next (enterWait t)
    else .fault .subStepWithoutRule := by
  have hne {q : BitVec 11} (h4 : q.toNat ≤ 4) : s.seq ≠ q := by
    rintro rfl
    omega
  rw [sendSubStep, if_neg (hne (by decide)), if_neg (hne (by decide)), if_neg (hne (by decide)),
    if_neg (hne (by decide))]
  simp [hq, goSubStep]

theorem sendSubStep_inImage {s : State} {i : Nat} (hm : s.mapped = true) (hq : s.seq.toNat = 5 + i)
    (hi : i < payloadCount s.chunkSize) (hin : DwordInImage s i) :
    sendSubStep s = .next { s with trace := s.trace ++ payloadEvents s i, seq := s.seq + 1#11 } := by
  rw [sendSubStep_afterHeader hq, if_pos hi, payloadDword_inImage hm hin, subStep_next_emits]

theorem sendSubStep_outOfImage {s : State} {i : Nat} (hq : s.seq.toNat = 5 + i)
    (hi : i < payloadCount s.chunkSize) (hout : ¬ DwordInImage s i) : sendSubStep s = .fault .imageOutOfBounds := by
  rw [sendSubStep_afterHeader hq, if_pos hi, payloadDword_outOfImage hout]
  rfl

theorem sendSubStep_go {s : State} (hm : s.mapped = true) (hq : s.seq.toNat = goSubStep s.chunkSize) :
    sendSubStep s = .next (enterWait (s.emit (.wr .ctrl (regAddr s.base .ctrl) Config.ctrlGoWord))) := by
  rw [sendSubStep_afterHeader hq, if_neg (Nat.lt_irrefl _), if_pos rfl, execGo, wrPort_mapped hm, andThen_next]

/-- Settles O40: outside the planning step the rule is the sub-step that `seq` names. -/
theorem sendChunkSubSteps : Obligations.SendChunkSubSteps := by
  rintro s _ hm rfl
  have hrule {q : Nat} (hq : s.seq.toNat = q + 1) : exec .stSendChunk s = sendSubStep s :=
    execStSendChunk_subStep fun h0 => by simp [h0] at hq
  have hnat {q : BitVec 11} (hq : s.seq = q) : s.seq.toNat = q.toNat := congrArg _ hq
  refine ⟨fun hq hd => ?_, fun hq hd => ?_, fun hq => ?_, fun hq => ?_, fun hq => ?_, ?_, ?_, fun hq => ?_⟩
  · exact (hrule (hnat hq)).trans (sendSubStep_notDwords hq hd)
  · rw [hrule (hnat hq), sendSubStep_header hm hq hd, hq]
    rfl
  · rw [hrule (hnat hq), sendSubStep_length hm hq, hq]
    rfl
  · rw [hrule (hnat hq), sendSubStep_command hm hq, hq]
    rfl
  · rw [hrule (hnat hq), sendSubStep_reserved hm hq, hq]
    rfl
  · rintro i _ hi hq rfl hin
    exact (hrule (q := 4 + i) (by omega)).trans (sendSubStep_inImage hm hq hi hin)
  · rintro i _ hi hq rfl hout
    exact (hrule (q := 4 + i) (by omega)).trans (sendSubStep_outOfImage hq hi (Nat.not_lt.2 hout))
  · exact (hrule (q := 4 + s.chunkSize.toNat / 4) (by omega)).trans (sendSubStep_go hm hq)

/-! ### The wait (R106 to R109) -/

/-- A sample exits (R108). -/
theorem pollExit_iff (c : Config) (w : Word) :
    pollExit c w = true ↔ w.getLsbD 31 = true ∨ (c.pollExitOnError = true ∧ w.getLsbD 2 = true) := by
  simp [pollExit, statusReadySet, statusErrorSet, Config.statusReadyBit, Config.statusErrorBit]

/-- A sample ends the wait where it exits or is the last (R106). -/
theorem waitEnds_iff (w : Word) (s : State) :
    waitEnds w s = true ↔ pollExit s.cfg w = true ∨ s.pollCount.toNat = 10000 := by
  rw [waitEnds, Bool.or_eq_true, decide_eq_true_iff, pollMax_eq]

/-- Settles O23: the rows of the three classes, by whether the sample ends the wait. -/
theorem sampleClassesDecideWait : Obligations.SampleClassesDecideWait := by
  intro s w exits hexits
  have hends : waitEnds w s = true ↔ exits ∨ s.pollCount.toNat = 10000 := by
    rw [waitEnds_iff, pollExit_iff, hexits]
  refine ⟨rfl, fun h => ?_, fun hgoes hcount => ?_⟩
  · exact ⟨congrArg _ (if_pos (hends.2 h)), congrArg _ (if_pos (hends.2 h))⟩
  · have hnot : ¬ waitEnds w s = true := fun h => (hends.1 h).elim hgoes hcount
    exact ⟨congrArg _ (if_neg hnot), congrArg _ (if_neg hnot)⟩

/-- The poll step with the window held. -/
theorem execStWaitReady_mapped {s : State} (hm : s.mapped = true) :
    execStWaitReady s = .next (endPoll (afterStatusRead (tickPort s))) := by
  rw [execStWaitReady, pollOnce_eq_next.2 ⟨hm, rfl⟩, andThen_next]

/-- The end of a poll by the two bits of its sample, ERROR before READY. -/
theorem endPoll_eq (s : State) : endPoll s =
    if s.lastStatus.getLsbD 2 = true then (if waitEnds s.lastStatus s = true then raiseFail .error s else s)
    else if s.lastStatus.getLsbD 31 = true then sampledReady s
    else if s.pollCount.toNat = 10000 then raiseFail .timeout s
    else s := by
  unfold endPoll classify statusErrorSet statusReadySet Config.statusErrorBit Config.statusReadyBit
  cases h2 : s.lastStatus.getLsbD 2 with
  | true => rfl
  | false =>
    cases h31 : s.lastStatus.getLsbD 31 with
    | true => rfl
    | false =>
      have hends : waitEnds s.lastStatus s = true ↔ s.pollCount.toNat = 10000 := by
        rw [waitEnds_iff, pollExit_iff, h2, h31]
        simp
      simp [sampledPending, hends]

/-- Settles O41: the tick and the read, then the end of the poll by the bits of the sample. -/
theorem pollStepSamplesOnce : Obligations.PollStepSamplesOnce := by
  rintro s t _ hm rfl ht
  have hsampled : afterStatusRead (tickPort s) = t := by
    rw [ht, afterStatusRead_eq]
    simp only [tickPort, State.emit, List.append_assoc, List.singleton_append]
    rfl
  have hends : waitEnds t.lastStatus t = true ↔ t.lastStatus.getLsbD 31 = true
      ∨ (t.cfg.pollExitOnError = true ∧ t.lastStatus.getLsbD 2 = true) ∨ t.pollCount.toNat = 10000 := by
    rw [waitEnds_iff, pollExit_iff, or_assoc]
  change execStWaitReady s = _
  rw [execStWaitReady_mapped hm, hsampled, endPoll_eq]
  simp only [hends]
  subst ht
  rfl

/-! ### The end of a response and of the run (R110, R111) -/

/-- Settles O27: both rows are one update of the registers, with no branch. -/
theorem nextOffsetTakenAsRead : Obligations.NextOffsetTakenAsRead := fun _ _ => ⟨rfl, rfl⟩

/-- Settles O44: both states run the same finishing step. -/
theorem finishingReleasesAndReports : Obligations.FinishingReleasesAndReports := by
  rintro s _ rfl
  constructor
  · intro hm
    have hfinish : Host.Outcome.next (finish s) = (.next _ : Res) := congrArg _ (finish_eq s)
    simp only [hm, if_true, List.append_assoc, List.singleton_append] at hfinish
    exact ⟨hfinish, hfinish⟩
  · intro hm
    have hfinish : Host.Outcome.next (finish s) = (.next _ : Res) := congrArg _ (finish_eq s)
    simp only [hm, Bool.false_eq_true, if_false, List.append_nil] at hfinish
    rw [← hm] at hfinish
    exact ⟨hfinish, hfinish⟩

end Sys2Proof.Machine

namespace Sys2Proof.Safety

open Sys2Proof.Machine

/-! ### The control transitions (R112) -/

theorem execStIdle_transition {s t : State} (hst : s.st = .idle) (h : execStIdle s = .next t) :
    isTransition .idle t.st = true := by
  obtain ⟨-, rfl⟩ | ⟨c, cs, -, -, rfl⟩ := execStIdle_cases h
  · rw [hst]
    rfl
  · rfl

theorem initStep_transition (s : State) : isTransition .init (initStep s).st = true := by
  obtain ⟨-, h⟩ | ⟨-, h⟩ := initStep_cases s <;> rw [h] <;> rfl

theorem execStSendChunk_transition {s t : State} (hst : s.st = .sendChunk) (h : execStSendChunk s = .next t) :
    isTransition .sendChunk t.st = true := by
  obtain ⟨-, rfl⟩ | ⟨-, hsub⟩ := execStSendChunk_cases h
  · obtain ⟨-, hp⟩ | ⟨-, hp⟩ := planChunk_cases s <;> simp [hp, hst, isTransition]
  · obtain ⟨-, ⟨-, -, es, rfl⟩ | rfl⟩ := sendSubStep_advances hsub
    · simp [hst, isTransition]
    · rfl

theorem execStWaitReady_transition {s t : State} (hst : s.st = .waitReady) (h : execStWaitReady s = .next t) :
    isTransition .waitReady t.st = true := by
  obtain ⟨-, rfl⟩ := execStWaitReady_cases h
  have hsampled : (afterStatusRead (tickPort s)).st = .waitReady := by
    rw [afterStatusRead_eq]
    exact hst
  obtain ⟨-, -, hp⟩ | ⟨-, hp⟩ | ⟨-, -, hp⟩ | ⟨-, -, hp⟩ := endPoll_cases (afterStatusRead (tickPort s)) <;> rw [hp]
  · rw [hsampled]
    rfl
  all_goals rfl

theorem execStReadResponse_transition {s t : State} (hst : s.st = .readResponse) (h : execStReadResponse s = .next t) :
    isTransition .readResponse t.st = true := by
  obtain ⟨-, ⟨-, rfl⟩ | ⟨-, rfl⟩ | ⟨-, rfl⟩⟩ := execStReadResponse_cases h
  · rw [checkEcho_eq, afterRdataRead_eq]
    simp [hst, isTransition]
  · simp [hst, isTransition]
  · obtain ⟨-, hp⟩ | ⟨-, -, hp⟩ | ⟨-, -, hp⟩ :=
      endResponse_cases (s.emit (.wr .rdata (regAddr s.base .rdata) 0#32)) <;> rw [hp] <;> rfl

/-- Settles O45: each control state by what its rule answers. -/
theorem controlTransitionsAreClosed : Obligations.ControlTransitionsAreClosed := by
  intro s t hr h
  exact step_elim h (P := fun t => isTransition s.st t.st = true)
    (reset := fun hr' => absurd hr' (by simp [hr]))
    (idle := fun hst h => hst ▸ execStIdle_transition hst h)
    (init := fun hst => hst ▸ initStep_transition s)
    (aborting := fun hst h => by
      obtain ⟨-, rfl⟩ := execStAborting_cases h
      rw [hst]
      rfl)
    (sendChunk := fun hst h => hst ▸ execStSendChunk_transition hst h)
    (waitReady := fun hst h => hst ▸ execStWaitReady_transition hst h)
    (readResponse := fun hst h => hst ▸ execStReadResponse_transition hst h)
    (finishing := fun hst => by
      rw [finish_eq]
      obtain hst | hst := hst <;> rw [hst] <;> rfl)

end Sys2Proof.Safety

/-! The operations of a whole run (spec/43 R121): `POLL` by its samples, and `STAGE` against a device that answers with
Ready and the sentinel, or not at all. -/

namespace Sys2Proof.Machine

open Sys2Proof.Safety

/-! ### `POLL` (R64, R106) -/

/-- The events of the polls that sampled the words `us`. -/
def pollEvents (b : Addr) (us : List Word) : List Event :=
  us.flatMap fun u => [.tick, .rd .status (b + 0x4#64) u]

/-- What the polls leave that sampled the words `ws` and last `w`: the answers they took from the queue and, beyond it,
the free values they drew. -/
def afterPolls (ws : List Word) (w : Word) (s : State) : State :=
  { s with
    pollCount := s.pollCount + BitVec.ofNat 14 (ws ++ [w]).length
    lastStatus := w
    statusIn := s.statusIn.drop (ws ++ [w]).length
    draws := s.draws + ((ws ++ [w]).length - s.statusIn.length)
    trace := s.trace ++ pollEvents s.base (ws ++ [w]) }

/-- The words `us` begin with the queued answers of Status, as far as the queue goes. -/
def FollowsQueue (us : List Word) (s : State) : Prop := us.take s.statusIn.length = s.statusIn.take us.length

/-- One poll samples the next answer. -/
theorem afterStatusRead_tickPort (s : State) : afterStatusRead (tickPort s) = afterPolls [] (statusAnswer s) s := by
  rw [afterStatusRead_eq]
  cases hq : s.statusIn <;>
    simp [afterPolls, pollEvents, tickPort, State.emit, statusAnswer, hq, regAddr, regOffset, Config.offStatus]

/-- The polls after the first one, counted with it. -/
theorem afterPolls_afterPolls (ws : List Word) (w : Word) (s : State) :
    afterPolls ws w (afterPolls [] (statusAnswer s) s) = afterPolls (statusAnswer s :: ws) w s := by
  have hcount :
      s.pollCount + 1#14 + BitVec.ofNat 14 (ws.length + 1) = s.pollCount + BitVec.ofNat 14 (ws.length + 1 + 1) := by
    rw [BitVec.ofNat_add (ws.length + 1), BitVec.add_assoc, BitVec.add_comm 1#14]
  have hdraws : s.draws + 1 + (ws.length + 1) = s.draws + (ws.length + 1 + 1) := by omega
  cases hq : s.statusIn <;> simp [afterPolls, pollEvents, statusAnswer, hq, hcount, hdraws]

theorem followsQueue_one (s : State) : FollowsQueue [statusAnswer s] s := by
  cases hq : s.statusIn <;> simp [FollowsQueue, statusAnswer, hq]

theorem FollowsQueue.cons {us : List Word} {s : State} (h : FollowsQueue us (afterPolls [] (statusAnswer s) s)) :
    FollowsQueue (statusAnswer s :: us) s := by
  cases hq : s.statusIn <;> simp_all [FollowsQueue, statusAnswer, afterPolls]

theorem pollCount_afterPolls_one {s : State} (w : Word) (h : s.pollCount.toNat < Config.pollMax) :
    (afterPolls [] w s).pollCount.toNat = s.pollCount.toNat + 1 := by
  rw [pollMax_eq] at h
  change (s.pollCount + 1#14).toNat = _
  rw [BitVec.toNat_add]
  exact Nat.mod_eq_of_lt (by simp; omega)

/-- With the window held, one poll samples the next answer. -/
theorem pollOnce_mapped {s : State} (hm : s.mapped = true) : pollOnce s = .next (afterPolls [] (statusAnswer s) s) :=
  pollOnce_eq_next.2 ⟨hm, (afterStatusRead_tickPort s).symm⟩

/-- With the window held, the polls of a wait sample words that do not exit, up to the first that does or to the
`POLL_MAX`-th. -/
theorem pollUpTo_samples {k : Nat} {s : State} (hm : s.mapped = true) (hk : 0 < k)
    (hcount : s.pollCount.toNat + k = Config.pollMax) :
    ∃ (ws : List Word) (w : Word), (∀ u ∈ ws, ¬ pollExit s.cfg u = true)
      ∧ (pollExit s.cfg w = true ∨ (ws ++ [w]).length = k) ∧ (ws ++ [w]).length ≤ k
      ∧ FollowsQueue (ws ++ [w]) s ∧ pollUpTo k s = .next (afterPolls ws w s) := by
  induction k generalizing s with
  | zero => omega
  | succ k ih =>
    have hsampled := pollCount_afterPolls_one (statusAnswer s) (s := s) (by omega)
    rw [pollMax_eq] at hcount
    have hends := waitEnds_iff (statusAnswer s) (afterPolls [] (statusAnswer s) s)
    rw [hsampled] at hends
    rw [pollUpTo, pollOnce_mapped hm, andThen_next]
    by_cases hover : waitEnds (statusAnswer s) (afterPolls [] (statusAnswer s) s) = true
    · refine ⟨[], statusAnswer s, by simp, (hends.1 hover).imp_right fun hlast => ?_, by simp, followsQueue_one s,
        if_pos hover⟩
      simp only [List.nil_append, List.length_singleton]
      omega
    · obtain ⟨hexit, hlast⟩ := not_or.1 (mt hends.2 hover)
      obtain ⟨ws, w, hws, hw, hlen, hqueue, hrest⟩ := ih (s := afterPolls [] (statusAnswer s) s) hm (by omega)
        (by rw [hsampled, pollMax_eq]; omega)
      refine ⟨statusAnswer s :: ws, w, List.forall_mem_cons.2 ⟨hexit, hws⟩, hw.imp_right fun h => ?_, ?_,
        hqueue.cons, ?_⟩
      · rw [List.cons_append, List.length_cons, h]
      · exact Nat.succ_le_succ hlen
      · rw [← afterPolls_afterPolls, ← hrest]
        exact if_neg hover

/-- Settles O24: the samples of the wait, by induction on the polls that are left. -/
theorem pollStopsAtFirstExit : Obligations.PollStopsAtFirstExit := by
  intro s exits hm hexits
  have hexit (u : Word) : exits u ↔ pollExit s.cfg u = true := (hexits u).trans (pollExit_iff s.cfg u).symm
  obtain ⟨ws, w, hws, hw, hlen, hqueue, hpoll⟩ := pollUpTo_samples (s := clearPolls s) hm (k := Config.pollMax)
    (by simp) (by simp [clearPolls])
  refine ⟨ws, w, by simp, hlen, fun u hu => mt (hexit u).1 (hws u hu), hw.imp_left (hexit w).2, hqueue, ?_⟩
  refine hpoll.trans ?_
  simp only [afterPolls, clearPolls, BitVec.zero_add]
  rfl

end Sys2Proof.Machine

namespace Sys2Proof.Machine

open Sys2Proof.Safety

/-! ### `STAGE` up to its loop (R102, R103, R121) -/

/-- `STAGE` under the premises of `START` is the run after it. -/
theorem execStage_of_premises {b : Addr} {t : Word} {s : State} (h : StartPremises b t s) :
    execStage b t s = stageRun (acceptStart b t s) := by
  rw [execStage, execStart_of_premises h, andThen_next]

/-- Settles O56: Init fails, and the finishing step releases no window. -/
theorem stageWithoutWindow : Obligations.StageWithoutWindow := by
  intro s b t ms hprem hm hmap
  have hfail : mapAnswer (acceptStart b t s) = .fail := by
    change mapAnswer s = .fail
    rw [mapAnswer, hmap]
  have hinit := Host.Outcome.next.inj ((initMapsOrFails (acceptStart b t s)).2 hfail)
  refine (execStage_of_premises hprem).trans ?_
  rw [stageRun, hinit, if_pos rfl, finish_eq]
  simp [acceptStart, hm, hmap]

/-- The state in which the loop of `STAGE` begins once `MAP` was granted and `ABORT` written. -/
def loopEntry (b : Addr) (t : Word) (ms : List MapAnswer) (s : State) : State :=
  { s with
    base := b, totalSize := t, offset := 0#32, bytesTransferred := 0#32, outcome := .none
    warnHdr := false, warnLen := false, mapIn := ms, mapped := true, st := .sendChunk, seq := 0#11
    trace := [.start b t, .map b .ok, .wr .ctrl (regAddr b .ctrl) 0x00000001#32] }

/-- With the mapping granted, `STAGE` answers what its loop answers in some number of turns. -/
theorem execStage_of_turns {b : Addr} {t : Word} {s : State} {ms : List MapAnswer} {k : Nat} {r : Res}
    (hprem : StartPremises b t s) (hmap : s.mapIn = .ok :: ms)
    (hturns : stageTurns k (loopEntry b t ms s) = some r) : execStage b t s = r := by
  have hok : mapAnswer (acceptStart b t s) = .ok := by
    change mapAnswer s = .ok
    rw [mapAnswer, hmap]
  have hinit := Host.Outcome.next.inj ((initMapsOrFails (acceptStart b t s)).1 hok)
  rw [execStage_of_premises hprem]
  refine stageRun_of_turns (by simp [hinit]) ?_ hturns
  rw [hinit, execStAborting_mapped rfl]
  simp [loopEntry, acceptStart, hmap, State.emit, State.goto, Config.ctrlAbortWord, Config.ctrlAbortBit]

/-! ### A transaction that ends Ready (R26, R107, R121) -/

/-- The words a device presents during a transaction that ends Ready: the samples before the last, the last, and the
four words of the response. -/
structure Answers where
  pending : List Word
  ready : Word
  header : Word
  length : Word
  next : Word
  flags : Word

/-- The events of the response `vs`. -/
def responseEvents (b : Addr) (vs : List Word) : List Event :=
  vs.flatMap fun v => [.rd .rdata (b + 0xC#64) v, .wr .rdata (b + 0xC#64) 0x00000000#32]

/-- The events of the transaction of the chunk that `s` holds. -/
def transactionEvents (a : Answers) (s : State) : List Event :=
  requestEvents s ++ pollEvents s.base (a.pending ++ [a.ready])
    ++ responseEvents s.base [a.header, a.length, a.next, a.flags]

/-- What the transaction of a chunk of `c` bytes leaves before its response is judged, with the answers `ss` and `rs`
still to come. -/
def afterTransaction (c : BitVec 13) (a : Answers) (ss rs : List Word) (s : State) : State :=
  { s with
    chunkSize := c, bytesTransferred := s.bytesTransferred + c.setWidth 32, st := .readResponse, seq := 0#11
    pollCount := BitVec.ofNat 14 (a.pending.length + 1), lastStatus := a.ready, statusIn := ss, rdataIn := rs
    respHeader := a.header, respLength := a.length, respNext := a.next, respFlags := a.flags
    warnHdr := s.warnHdr || a.header != s.cfg.headerConst
    warnLen := s.warnLen || a.length != s.cfg.respLenExpected
    trace := s.trace ++ transactionEvents a { s with chunkSize := c } }

/-- A sample with ERROR clear exits exactly where it is Ready (R108, R109). -/
theorem pollExit_iff_ready {c : Config} {w : Word} (h : classify w ≠ .error) :
    pollExit c w = true ↔ classify w = .ready := by
  unfold classify at *
  unfold pollExit
  cases herror : statusErrorSet w with
  | true => simp [herror] at h
  | false => cases hready : statusReadySet w <;> simp

/-- Samples that follow a queue and stop at the first exit or beyond it are the queue up to its first exit. -/
theorem samples_unique {exits : Word → Prop} {ws pending ss : List Word} {w ready : Word}
    (hws : ∀ u ∈ ws, ¬ exits u) (hw : exits w ∨ pending.length ≤ ws.length)
    (hpending : ∀ u ∈ pending, ¬ exits u) (hready : exits ready)
    (hagree : (ws ++ [w]).take (pending ++ ready :: ss).length = (pending ++ ready :: ss).take (ws ++ [w]).length) :
    ws = pending ∧ w = ready := by
  induction pending generalizing ws with
  | nil =>
    cases ws with
    | nil => simpa using hagree
    | cons u ws =>
      obtain ⟨rfl, -⟩ : u = ready ∧ _ := by simpa using hagree
      exact absurd hready (hws u List.mem_cons_self)
  | cons p pending ih =>
    cases ws with
    | nil =>
      obtain rfl : w = p := by simpa using hagree
      exact absurd (hw.resolve_right (Nat.not_succ_le_zero _)) (hpending w List.mem_cons_self)
    | cons u ws =>
      obtain ⟨rfl, hrest⟩ : u = p ∧ _ := by simpa using hagree
      obtain ⟨rfl, rfl⟩ := ih (List.forall_mem_cons.1 hws).2 (hw.imp_right Nat.le_of_succ_le_succ)
        (List.forall_mem_cons.1 hpending).2 (by simpa using hrest)
      exact ⟨rfl, rfl⟩

/-- What a wait leaves that sampled `pending` and last `ready`, with the samples `ss` still to come. -/
def afterWait (pending : List Word) (ready : Word) (ss : List Word) (s : State) : State :=
  { s with
    pollCount := BitVec.ofNat 14 (pending.length + 1), lastStatus := ready, statusIn := ss
    trace := s.trace ++ pollEvents s.base (pending ++ [ready]) }

/-- `POLL` against one wait of a conforming device samples that wait. -/
theorem execPoll_conforming {s : State} {pending ss : List Word} {ready : Word} (hm : s.mapped = true)
    (hwait : ConformingWait pending ready) (hq : s.statusIn = pending ++ ready :: ss) :
    execPoll s = .next (afterWait pending ready ss s) := by
  obtain ⟨ws, w, -, -, hws, hw, hagree, hpoll⟩ :=
    pollStopsAtFirstExit s (fun u => pollExit s.cfg u = true) hm (fun u => pollExit_iff s.cfg u)
  rw [hq] at hagree
  have hlast : pollExit s.cfg w = true ∨ pending.length ≤ ws.length := hw.imp_right fun h => by
    have hshort := hwait.short
    rw [pollMax_eq] at hshort
    rw [List.length_append, List.length_singleton] at h
    omega
  have hidle (u : Word) (hu : u ∈ pending) : ¬ pollExit s.cfg u = true := by
    have hclass := hwait.idle u hu
    rw [pollExit_iff_ready (by simp [hclass]), hclass]
    simp
  have hready : pollExit s.cfg ready = true := (pollExit_iff_ready (by simp [hwait.ends])).2 hwait.ends
  obtain ⟨rfl, rfl⟩ := samples_unique hws hlast hidle hready hagree
  refine Eq.trans hpoll ?_
  simp [afterWait, hq, pollEvents]

/-- What `DECODE` leaves that read the words `h`, `l`, `n` and `f`, with the words `rs` still to come. -/
def afterDecode (h l n f : Word) (rs : List Word) (s : State) : State :=
  { s with
    rdataIn := rs, respHeader := h, respLength := l, respNext := n, respFlags := f
    warnHdr := s.warnHdr || h != s.cfg.headerConst, warnLen := s.warnLen || l != s.cfg.respLenExpected
    trace := s.trace ++ responseEvents s.base [h, l, n, f] }

/-- `DECODE` of four queued words. -/
theorem execDecode_queue {s : State} {h l n f : Word} {rs : List Word} (hm : s.mapped = true)
    (hq : s.rdataIn = h :: l :: n :: f :: rs) : execDecode s = .next (afterDecode h l n f rs s) := by
  have take_one (e : State) (v : Word) (vs : List Word) (he : e.rdataIn = v :: vs) :
      v = rdataAnswer e ∧ { e with rdataIn := vs } = afterRdataAnswer e := by
    simp [rdataAnswer, afterRdataAnswer, he]
  obtain ⟨hh, h1⟩ := take_one s h _ hq
  obtain ⟨hl, h2⟩ := take_one { s with rdataIn := l :: n :: f :: rs } l _ rfl
  obtain ⟨hn, h3⟩ := take_one { s with rdataIn := n :: f :: rs } n _ rfl
  obtain ⟨hf, h4⟩ := take_one { s with rdataIn := f :: rs } f _ rfl
  exact decodeReadsFourWords s _ _ _ _ h l n f hm hh h1 hl h2 hn h3 hf h4

theorem endPoll_ready {s : State} (h : classify s.lastStatus = .ready) : endPoll s = sampledReady s := by
  rw [endPoll, h]

/-- A transaction whose request, wait and response all come through. -/
theorem transaction_of_parts {s p e q d : State} (hplan : planChunk s = p) (hp : p.st ≠ .failed)
    (hencode : execEncode p = .next e) (hpoll : execPoll (enterWait e) = .next q)
    (hready : classify q.lastStatus = .ready) (hdecode : execDecode (sampledReady q) = .next d) :
    transaction s = .next (endResponse d) := by
  have hst : (sampledReady q).st = .readResponse := rfl
  rw [transaction, hplan, if_neg hp, hencode, andThen_next, hpoll, andThen_next, endPoll_ready hready, if_pos hst,
    hdecode, andThen_next]

/-- `ENCODE` of a chunk of whole dwords inside the image records the events of the request. -/
theorem execEncode_inImage {s : State} (hm : s.mapped = true) (hdwords : s.chunkSize.toNat % 4 = 0)
    (hin : RequestInImage s) : execEncode s = .next (s.emits (requestEvents s)) :=
  encodeIssuesWholeRequest s hm hdwords hin

/-- A transaction within the budget, of whole dwords inside the image, whose wait ends Ready. -/
theorem transaction_conforming {s : State} {c : BitVec 13} {a : Answers} {ss rs : List Word}
    (hst : s.st = .sendChunk) (hm : s.mapped = true) (hc : chunkSizeOf s.totalSize s.offset = c)
    (hbudget : s.bytesTransferred.toNat + c.toNat ≤ 2 * s.totalSize.toNat) (hdwords : c.toNat % 4 = 0)
    (hin : RequestInImage { s with chunkSize := c }) (hwait : ConformingWait a.pending a.ready)
    (hstatus : s.statusIn = a.pending ++ a.ready :: ss)
    (hrdata : s.rdataIn = a.header :: a.length :: a.next :: a.flags :: rs) :
    transaction s = .next (endResponse (afterTransaction c a ss rs s)) := by
  have hrequest := execEncode_inImage (s := { s with chunkSize := c, seq := 1#11 }) hm hdwords hin
  rw [transaction_of_parts (planChunk_withinBudget hc hbudget) (by simp [hst]) hrequest
    (execPoll_conforming (by exact hm) hwait (by exact hstatus)) hwait.ends
    (execDecode_queue (by exact hm) (by exact hrdata))]
  simp only [afterDecode, sampledReady, afterWait, enterWait, clearPolls, State.goto, State.emits, afterTransaction,
    transactionEvents, List.append_assoc]
  rfl

/-- A response with ERROR clear and the sentinel ends the loop with Ok. -/
theorem endResponse_sentinel {s : State} (hflags : respErrorSet s.cfg s.respFlags = false)
    (hnext : s.respNext = Config.terminalSentinel) :
    endResponse s = { s with offset := Config.terminalSentinel, outcome := .ok, st := .done, seq := 0#11 } := by
  rw [endResponse, hflags, ← responseOk_sentinel hnext]
  rfl

/-- A response with ERROR clear and another next offset goes on there. -/
theorem endResponse_nextOffset {s : State} (hflags : respErrorSet s.cfg s.respFlags = false)
    (hnext : s.respNext ≠ Config.terminalSentinel) :
    endResponse s = { s with offset := s.respNext, st := .sendChunk, seq := 0#11 } := by
  rw [endResponse, hflags, ← responseOk_nextOffset hnext]
  rfl

theorem stageTurns_last {s t : State} (h : transaction s = .next t) (hst : t.st ≠ .sendChunk) :
    stageTurns 1 s = some (.next (finish t)) := by
  rw [stageTurns, h]
  exact if_neg hst

theorem stageTurns_more {s t : State} (k : Nat) (h : transaction s = .next t) (hst : t.st = .sendChunk) :
    stageTurns (k + 1) s = stageTurns k t := by
  rw [stageTurns, h]
  exact if_pos hst

/-- Settles O57: one transaction of an empty chunk, whose response ends the run. -/
theorem stageOfEmptyImage : Obligations.StageOfEmptyImage := by
  intro s b w h l f ms ws rs hprem hmap hstatus hready hrdata hflags
  have hturn : transaction (loopEntry b 0#32 ms s) = .next _ :=
    transaction_conforming (c := 0#13) (a := ⟨[], w, h, l, 0xFFFFFFFF#32, f⟩) rfl rfl
      (by simp [loopEntry, chunkSizeOf]) (by simp [loopEntry]) (by decide)
      (by simp [RequestInImage]) ⟨by simp, by simp, hready⟩ hstatus hrdata
  rw [endResponse_sentinel hflags rfl] at hturn
  refine execStage_of_turns (k := 1) hprem hmap ?_
  rw [stageTurns_last hturn (by simp), finish_eq]
  simp [afterTransaction, loopEntry, transactionEvents, requestEvents, pollEvents, responseEvents, regAddr, regOffset,
    Config.offStatus, Config.offRdata, Config.terminalSentinel]

end Sys2Proof.Machine

namespace Sys2Proof.Safety

open Sys2Proof.Machine

/-! ### What a trace sends (R118) -/

/-- The events `es` hold `gos` writes of `GO` and `words` writes to Write-data, and they fetch `dwords`, each written by
the very next event: wherever `es` begin a trace, they add just these to its counts. -/
structure Sends (es : List Event) (gos : Nat) (dwords : List (Word × Word)) (words : Nat) : Prop where
  goCount : ∀ fs, goCount (es ++ fs) = gos + goCount fs
  fetchAddrs : ∀ fs, fetchAddrs (es ++ fs) = dwords.map Prod.fst ++ fetchAddrs fs
  sentDwords : ∀ fs, sentDwords (es ++ fs) = dwords ++ sentDwords fs
  wdataCount : ∀ fs, wdataCount (es ++ fs) = words + wdataCount fs

theorem Sends.append {es es' : List Event} {gos gos' words words' : Nat} {dwords dwords' : List (Word × Word)}
    (h : Sends es gos dwords words) (h' : Sends es' gos' dwords' words') :
    Sends (es ++ es') (gos + gos') (dwords ++ dwords') (words + words') where
  goCount fs := by rw [List.append_assoc, h.goCount, h'.goCount, Nat.add_assoc]
  fetchAddrs fs := by rw [List.append_assoc, h.fetchAddrs, h'.fetchAddrs, List.map_append, List.append_assoc]
  sentDwords fs := by rw [List.append_assoc, h.sentDwords, h'.sentDwords, List.append_assoc]
  wdataCount fs := by rw [List.append_assoc, h.wdataCount, h'.wdataCount, Nat.add_assoc]

/-- What a whole trace sends. -/
theorem Sends.counts {es : List Event} {gos words : Nat} {dwords : List (Word × Word)} (h : Sends es gos dwords words) :
    Safety.goCount es = gos ∧ Safety.fetchAddrs es = dwords.map Prod.fst ∧ Safety.sentDwords es = dwords
      ∧ Safety.wdataCount es = words := by
  have hgos := h.goCount []
  have hfetches := h.fetchAddrs []
  have hsent := h.sentDwords []
  have hwords := h.wdataCount []
  simp only [List.append_nil] at hgos hfetches hsent hwords
  exact ⟨hgos, hfetches.trans (List.append_nil _), hsent.trans (List.append_nil _), hwords⟩

theorem sends_nil : Sends [] 0 [] 0 := by constructor <;> simp

/-- One write of a word that no fetch precedes. -/
theorem sends_wdata (a : Addr) (v : Word) : Sends [.wr .wdata a v] 0 [] 1 where
  goCount _ := (Nat.zero_add _).symm
  fetchAddrs _ := rfl
  sentDwords _ := rfl
  wdataCount _ := Nat.add_comm ..

/-- One write of `GO`. -/
theorem sends_go (a : Addr) : Sends [.wr .ctrl a Config.ctrlGoWord] 1 [] 0 where
  goCount _ := Nat.add_comm ..
  fetchAddrs _ := rfl
  sentDwords _ := rfl
  wdataCount _ := (Nat.zero_add _).symm

/-- One payload dword, fetched and written. -/
theorem sends_payload (a v : Word) (b : Addr) : Sends [.img a v, .wr .wdata b v] 0 [(a, v)] 1 where
  goCount _ := (Nat.zero_add _).symm
  fetchAddrs _ := rfl
  sentDwords _ := if_pos rfl
  wdataCount _ := Nat.add_comm ..

/-- Events that are no fetch, no write to Write-data and no `GO`. -/
def Quiet : Event → Bool
  | .wr .wdata _ _ => false
  | .wr .ctrl _ v => v != 0x80000000#32
  | .img _ _ => false
  | _ => true

theorem sends_quiet_one {e : Event} (h : Quiet e = true) : Sends [e] 0 [] 0 := by
  cases e with
  | wr r a v =>
    cases r with
    | ctrl =>
      have hgo : (v == 0x80000000#32) = false := by simpa [Quiet] using h
      exact ⟨fun _ => by simp [goCount, hgo], fun _ => rfl, fun _ => rfl, fun _ => (Nat.zero_add _).symm⟩
    | wdata => cases h
    | status | rdata =>
      exact ⟨fun _ => (Nat.zero_add _).symm, fun _ => rfl, fun _ => rfl, fun _ => (Nat.zero_add _).symm⟩
  | img a v => cases h
  | start | map | rd | tick | unmap | done =>
    exact ⟨fun _ => (Nat.zero_add _).symm, fun _ => rfl, fun _ => rfl, fun _ => (Nat.zero_add _).symm⟩

theorem sends_quiet {es : List Event} (h : es.all Quiet = true) : Sends es 0 [] 0 := by
  induction es with
  | nil => exact sends_nil
  | cons e es ih =>
    obtain ⟨he, hes⟩ := Bool.and_eq_true_iff.1 h
    exact (sends_quiet_one he).append (ih hes)

theorem quiet_pollEvents (b : Addr) (us : List Word) : (pollEvents b us).all Quiet = true := by
  simp [pollEvents, Quiet]

theorem quiet_responseEvents (b : Addr) (vs : List Word) : (responseEvents b vs).all Quiet = true := by
  simp [responseEvents, Quiet]

/-- Payload dword `i` of the chunk, with its address. -/
def chunkDword (s : State) (i : Nat) : Word × Word :=
  (payloadAddr s.offset i, Memory.readDword s.image (payloadAddr s.offset i).toNat)

theorem sends_payloads (s : State) (is : List Nat) :
    Sends (is.flatMap (payloadEvents s)) 0 (is.map (chunkDword s)) is.length := by
  induction is with
  | nil => exact sends_nil
  | cons i is ih =>
    rw [List.length_cons, Nat.add_comm]
    exact (sends_payload _ _ _).append ih

/-- A transaction sends its header's four words, its payload, and one `GO`. -/
theorem sends_transaction (a : Answers) (s : State) :
    Sends (transactionEvents a s) 1 ((List.range' 0 (payloadCount s.chunkSize)).map (chunkDword s))
      (4 + payloadCount s.chunkSize) := by
  have header : Sends (headerEvents s) 0 [] 4 :=
    (sends_wdata _ _).append ((sends_wdata _ _).append ((sends_wdata _ _).append (sends_wdata _ _)))
  have payload := sends_payloads s (List.range' 0 (payloadCount s.chunkSize))
  rw [List.length_range'] at payload
  have request := (header.append payload).append (sends_go (regAddr s.base .ctrl))
  have answers := (sends_quiet (quiet_pollEvents s.base (a.pending ++ [a.ready]))).append
    (sends_quiet (quiet_responseEvents s.base [a.header, a.length, a.next, a.flags]))
  rw [transactionEvents, requestEvents_eq, List.append_assoc]
  simpa using request.append answers

/-! ### A run against a conforming device (R26, R118) -/

/-- The dword of the image at byte address `4 * i`, with its address. -/
def imageDword (m : Memory) (i : Nat) : Word × Word := (BitVec.ofNat 32 (4 * i), Memory.readDword m (4 * i))

/-- The loop of `STAGE` stands at offset `o`, every byte below it sent. -/
structure LoopAt (o : Nat) (s : State) : Prop where
  st : s.st = .sendChunk
  mapped : s.mapped = true
  offset : s.offset = BitVec.ofNat 32 o
  bytes : s.bytesTransferred = BitVec.ofNat 32 o
  warnHdr : s.warnHdr = false
  warnLen : s.warnLen = false
  dwords : o % 4 = 0
  size : s.totalSize.toNat ≤ Config.totalSizeMax
  sizeDwords : s.totalSize.toNat % 4 = 0
  inside : o < s.totalSize.toNat

/-- `u` is the end of a run with Ok, which from the state `s` at offset `o` on sent each dword of the image once, in
order, in chunks of a page. -/
structure EndsOk (o : Nat) (s u : State) : Prop where
  st : u.st = .idle
  outcome : u.outcome = .ok
  mapped : u.mapped = false
  bytes : u.bytesTransferred = s.totalSize
  trace : ∃ es, u.trace = s.trace ++ (es ++ [.unmap, .done true .ok false false])
    ∧ Sends es ((s.totalSize.toNat - o + 4095) / 4096)
      ((List.range' (o / 4) ((s.totalSize.toNat - o) / 4)).map (imageDword s.image))
      ((s.totalSize.toNat - o) / 4 + 4 * ((s.totalSize.toNat - o + 4095) / 4096))

/-- In `d` the chunk of `n` bytes at offset `o` of the state `s` is sent and counted. -/
structure ChunkSent (o n : Nat) (s d : State) : Prop where
  operands : SameOperands s d
  mapped : d.mapped = true
  bytes : d.bytesTransferred = BitVec.ofNat 32 (o + n)
  warnHdr : d.warnHdr = false
  warnLen : d.warnLen = false
  trace : ∃ es, d.trace = s.trace ++ es
    ∧ Sends es 1 ((List.range' (o / 4) (n / 4)).map (imageDword s.image)) (4 + n / 4)

section
variable {o : Nat} {s : State} (h : LoopAt o s)
include h

theorem LoopAt.size_lt : s.totalSize.toNat < 2 ^ 31 := by
  have hsize := h.size
  unfold Config.totalSizeMax at hsize
  omega

/-- The chunk at offset `o` is a page, or what is left (R104). -/
theorem LoopAt.chunk : (chunkSizeOf s.totalSize s.offset).toNat = min 4096 (s.totalSize.toNat - o) := by
  have hin := h.inside
  have hoff : s.offset.toNat = o := by
    rw [h.offset]
    exact Nat.mod_eq_of_lt (by have := h.size_lt; omega)
  rw [(chunkSizeArithmetic s.totalSize s.offset).1 (by omega), hoff]

/-- A dword of the chunk stands in the image at the offset and its place (R85). -/
theorem LoopAt.payloadAddr_toNat {i : Nat} (hi : o + 4 * i < s.totalSize.toNat) :
    (payloadAddr s.offset i).toNat = o + 4 * i := by
  rw [payloadAddr, h.offset, ← BitVec.ofNat_add]
  exact Nat.mod_eq_of_lt (by have := h.size_lt; omega)

theorem LoopAt.requestInImage : RequestInImage { s with chunkSize := chunkSizeOf s.totalSize s.offset } := by
  intro i hi
  have hc := h.chunk
  have hd := h.dwords
  have hs := h.sizeDwords
  simp only at hi ⊢
  rw [h.payloadAddr_toNat (by omega)]
  omega

theorem LoopAt.chunkDwords {n : Nat} (hn : o + 4 * n ≤ s.totalSize.toNat) :
    (List.range' 0 n).map (chunkDword s) = (List.range' (o / 4) n).map (imageDword s.image) := by
  rw [← Nat.add_zero (o / 4), ← List.map_add_range', List.map_map]
  refine List.map_congr_left fun i hi => ?_
  have hi : i < n := by simpa using hi
  have hd := h.dwords
  have haddr := h.payloadAddr_toNat (i := i) (by omega)
  have hplace : o + 4 * i = 4 * (o / 4 + i) := by omega
  rw [chunkDword, Function.comp_apply, imageDword, ← hplace, haddr, ← haddr, BitVec.ofNat_toNat, BitVec.setWidth_eq]

/-- The bytes sent once the chunk is counted. -/
theorem LoopAt.bytes_chunk {c : BitVec 13} : s.bytesTransferred + c.setWidth 32 = BitVec.ofNat 32 (o + c.toNat) := by
  rw [h.bytes, BitVec.ofNat_add, BitVec.ofNat_toNat]

/-- The request of the chunk sends the next `n / 4` dwords of the image. -/
theorem LoopAt.sends_chunk (a : Answers) {n : Nat} (hn : n = min 4096 (s.totalSize.toNat - o)) :
    Sends (transactionEvents a { s with chunkSize := chunkSizeOf s.totalSize s.offset }) 1
      ((List.range' (o / 4) (n / 4)).map (imageDword s.image)) (4 + n / 4) := by
  have hin := h.inside
  have hsends := sends_transaction a { s with chunkSize := chunkSizeOf s.totalSize s.offset }
  rw [payloadCount, h.chunk, ← hn] at hsends
  rw [← h.chunkDwords (by omega)]
  exact hsends

/-- A transaction against a conforming device sends the chunk. -/
theorem LoopAt.transaction {n : Nat} {pending ss rs : List Word} {ready next flags : Word}
    (hn : n = min 4096 (s.totalSize.toNat - o)) (hwait : ConformingWait pending ready)
    (hflags : respErrorSet s.cfg flags = false) (hstatus : s.statusIn = pending ++ ready :: ss)
    (hrdata : s.rdataIn = s.cfg.headerConst :: s.cfg.respLenExpected :: next :: flags :: rs) :
    ∃ d, Machine.transaction s = .next (endResponse d) ∧ ChunkSent o n s d
      ∧ respErrorSet d.cfg d.respFlags = false ∧ d.respNext = next ∧ d.statusIn = ss ∧ d.rdataIn = rs := by
  have hchunk := h.chunk
  have hin := h.inside
  have hbytes : s.bytesTransferred.toNat = o := by
    rw [h.bytes]
    exact Nat.mod_eq_of_lt (by have := h.size_lt; omega)
  refine ⟨_, transaction_conforming (a := ⟨pending, ready, s.cfg.headerConst, s.cfg.respLenExpected, next, flags⟩)
    h.st h.mapped rfl (by omega) (by have := h.dwords; have := h.sizeDwords; omega) h.requestInImage hwait hstatus
    hrdata, ?_, hflags, rfl, rfl, rfl⟩
  exact
    { operands := by constructor <;> rfl
      mapped := h.mapped
      bytes := by rw [hn, ← hchunk]; exact h.bytes_chunk
      warnHdr := by simp [afterTransaction, h.warnHdr]
      warnLen := by simp [afterTransaction, h.warnLen]
      trace := ⟨_, rfl, h.sends_chunk _ hn⟩ }

end

section
variable {o n : Nat} {s d : State} (h : LoopAt o s) (hd : ChunkSent o n s d)
include h hd

/-- After the last chunk the finishing step ends the run. -/
theorem ChunkSent.endsOk_finish (hn : n = s.totalSize.toNat - o) (hlast : n ≤ 4096) :
    EndsOk o s (finish { d with offset := Config.terminalSentinel, outcome := .ok, st := .done, seq := 0#11 }) := by
  have hin := h.inside
  have hgos : (n + 4095) / 4096 = 1 := by omega
  obtain ⟨es, htrace, hsends⟩ := hd.trace
  rw [finish_eq]
  refine ⟨rfl, rfl, rfl, ?_, es, ?_, ?_⟩
  · have hbytes := hd.bytes
    rw [hn, Nat.add_sub_cancel' hin.le, BitVec.ofNat_toNat, BitVec.setWidth_eq] at hbytes
    exact hbytes
  · simp [htrace, hd.mapped, hd.warnHdr, hd.warnLen]
  · rw [← hn, hgos, Nat.add_comm _ (4 * 1)]
    exact hsends

/-- After a chunk before the last the loop goes on at the next page. -/
theorem ChunkSent.loopAt (hn : n = 4096) (hmore : o + 4096 < s.totalSize.toNat)
    (hnext : d.respNext = BitVec.ofNat 32 (o + 4096)) :
    LoopAt (o + 4096) { d with offset := d.respNext, st := .sendChunk, seq := 0#11 } where
  st := rfl
  mapped := hd.mapped
  offset := hnext
  bytes := hn ▸ hd.bytes
  warnHdr := hd.warnHdr
  warnLen := hd.warnLen
  dwords := by have := h.dwords; omega
  size := hd.operands.totalSize ▸ h.size
  sizeDwords := hd.operands.totalSize ▸ h.sizeDwords
  inside := hd.operands.totalSize ▸ hmore

end

/-- What the rest of the run sends comes after the chunk. -/
theorem ChunkSent.endsOk_more {o n : Nat} {s d t u : State} (hd : ChunkSent o n s d) (hn : n = 4096)
    (hmore : o + 4096 < s.totalSize.toNat)
    (ht : t = { d with offset := d.respNext, st := .sendChunk, seq := 0#11 })
    (hu : EndsOk (o + 4096) t u) : EndsOk o s u := by
  obtain ⟨hst, hout, hm, hbytes, fs, hrest, hsendsRest⟩ := hu
  obtain ⟨es, htrace, hsends⟩ := hd.trace
  have hsize : t.totalSize = s.totalSize := ht ▸ hd.operands.totalSize
  have himage : t.image = s.image := ht ▸ hd.operands.image
  have htrace' : t.trace = s.trace ++ es := ht ▸ htrace
  have hwhole := hsends.append hsendsRest
  have hplace : (o + 4096) / 4 = o / 4 + 1 * (4096 / 4) := by omega
  rw [hsize, himage, hn, hplace, ← List.map_append, List.range'_append] at hwhole
  have hgos : (s.totalSize.toNat - o + 4095) / 4096 = 1 + (s.totalSize.toNat - (o + 4096) + 4095) / 4096 := by omega
  have hdwords : (s.totalSize.toNat - o) / 4 = 4096 / 4 + (s.totalSize.toNat - (o + 4096)) / 4 := by omega
  refine ⟨hst, hout, hm, hbytes.trans hsize, es ++ fs, ?_, ?_⟩
  · rw [hrest, htrace', List.append_assoc, List.append_assoc]
  · rw [hgos, hdwords]
    convert hwhole using 1
    omega

/-- Against a conforming device the loop ends with Ok, by induction on what the device answers. -/
theorem LoopAt.endsOk {c : Config} {T o : Nat} {ss rs : List Word} {s : State} (hdevice : Conforming c T o ss rs)
    (h : LoopAt o s) (hcfg : s.cfg = c) (hsize : s.totalSize.toNat = T) (hstatus : s.statusIn = ss)
    (hrdata : s.rdataIn = rs) : ∃ k u, stageTurns k s = some (.next u) ∧ EndsOk o s u := by
  induction hdevice generalizing s with
  | last o pending ready flags ss rs hin hlast hwait hflags =>
    subst hcfg hsize
    unfold Config.pageSize at hlast
    obtain ⟨d, hturn, hd, herror, hnext, -, -⟩ := h.transaction (n := s.totalSize.toNat - o) (by omega) hwait hflags
      hstatus hrdata
    rw [endResponse_sentinel herror hnext] at hturn
    exact ⟨1, _, stageTurns_last hturn (by simp), hd.endsOk_finish h rfl (by omega)⟩
  | more o pending ready flags ss rs hmore hwait hflags _ ih =>
    subst hcfg hsize
    unfold Config.pageSize at *
    have hsize := h.size_lt
    obtain ⟨d, hturn, hd, herror, hnext, hss, hrs⟩ := h.transaction (n := 4096) (by omega) hwait hflags hstatus hrdata
    have hgoes : d.respNext ≠ Config.terminalSentinel := by
      rw [hnext]
      intro hsentinel
      have hnat := congrArg BitVec.toNat hsentinel
      rw [BitVec.toNat_ofNat, Nat.mod_eq_of_lt (by omega)] at hnat
      change o + 4096 = 0xFFFFFFFF at hnat
      omega
    rw [endResponse_nextOffset herror hgoes] at hturn
    obtain ⟨k, u, hk, hu⟩ := ih (hd.loopAt h rfl hmore hnext) hd.operands.cfg (congrArg _ hd.operands.totalSize) hss hrs
    exact ⟨k + 1, u, (stageTurns_more k hturn rfl).trans hk, hd.endsOk_more rfl hmore rfl hu⟩

/-- Settles O59: the loop from offset 0, and what its trace sends after `START`, `MAP` and `ABORT`. -/
theorem conformingRunEndsOk : Obligations.ConformingRunEndsOk := by
  intro s b t ms hprem hpos hmap hdevice
  obtain ⟨-, hsize, hdwords, -⟩ := id hprem
  have hentry : LoopAt 0 (loopEntry b t ms s) :=
    { st := rfl, mapped := rfl, offset := rfl, bytes := rfl, warnHdr := rfl, warnLen := rfl, dwords := rfl
      size := hsize, sizeDwords := hdwords, inside := hpos }
  obtain ⟨k, u, hturns, hst, hout, hm, hbytes, es, htrace, hsends⟩ := hentry.endsOk hdevice rfl rfl rfl rfl
  have hquiet : (loopEntry b t ms s).trace.all Quiet = true := by
    simp [loopEntry, Quiet]
  have hfinish : Sends [.unmap, .done true .ok false false] 0 [] 0 := sends_quiet rfl
  have hwhole : Sends u.trace ((t.toNat + 4095) / 4096) ((List.range (t.toNat / 4)).map (imageDword s.image))
      (t.toNat / 4 + 4 * ((t.toNat + 4095) / 4096)) := by
    have happended := (sends_quiet hquiet).append (hsends.append hfinish)
    rw [← htrace] at happended
    simpa [loopEntry, List.range_eq_range'] using happended
  obtain ⟨hgos, hfetches, hsent, hwords⟩ := hwhole.counts
  exact ⟨u, execStage_of_turns hprem hmap hturns, hst, hout, hm, hbytes, ⟨_, by rw [htrace, List.append_assoc]⟩, hgos,
    hfetches.trans (List.map_map ..), hsent, hwords⟩

end Sys2Proof.Safety

/-! `STAGE` and the small steps (spec/43 R100, R121): each turn of the loop of `STAGE` is a run of the small steps. -/

namespace Sys2Proof.Machine

open Sys2Proof.Safety Relation

/-! ### Runs of small steps -/

/-- One small step taken outside Idle. -/
def BusyStep (s t : State) : Prop := s.st ≠ .idle ∧ step s = .next t

/-- After `k` steps the run from `s` goes on outside Idle. -/
def BusyAfter (k : Nat) (s : State) : Prop := ∃ v : State, core.run k s = .next v ∧ v.st ≠ .idle

section
variable {M : Host.Core} {s : M.State}

theorem run_succ_of_next {t : M.State} (h : M.step s = .next t) (k : Nat) : M.run (k + 1) s = M.run k t := by
  rw [Host.Core.run, h]

theorem run_one_of_fault {e : M.Fault} (h : M.step s = .fault e) : M.run 1 s = .fault e := by
  rw [Host.Core.run, h]

end

/-- A busy step makes a run busy for one step longer. -/
theorem BusyStep.busyAfter {s t : State} {k : Nat} (h : BusyStep s t) (ht : ∀ j < k, BusyAfter j t) :
    ∀ j < k + 1, BusyAfter j s := by
  intro j hj
  cases j with
  | zero => exact ⟨s, rfl, h.1⟩
  | succ j =>
    obtain ⟨v, hrun, hv⟩ := ht j (by omega)
    exact ⟨v, (run_succ_of_next (M := core) h.2 j).trans hrun, hv⟩

/-- A chain of busy steps is a run, busy before its end. -/
theorem exists_run_of_busySteps {s t : State} (h : ReflTransGen BusyStep s t) :
    ∃ k, core.run k s = .next t ∧ ∀ j < k, BusyAfter j s := by
  induction h using ReflTransGen.head_induction_on with
  | refl => exact ⟨0, rfl, by simp⟩
  | head hstep _ ih =>
    obtain ⟨k, hrun, hbusy⟩ := ih
    exact ⟨k + 1, (run_succ_of_next (M := core) hstep.2 k).trans hrun, hstep.busyAfter hbusy⟩

/-- A chain of busy steps to a state whose step faults is a run that faults. -/
theorem exists_run_fault_of_busySteps {s t : State} {e : Fault} (h : ReflTransGen BusyStep s t)
    (hfault : step t = .fault e) : ∃ k, core.run k s = .fault e := by
  induction h using ReflTransGen.head_induction_on with
  | refl => exact ⟨1, run_one_of_fault (M := core) hfault⟩
  | head hstep _ ih =>
    obtain ⟨k, hrun⟩ := ih
    exact ⟨k + 1, (run_succ_of_next (M := core) hstep.2 k).trans hrun⟩

/-- A chain of at least one busy step makes a run busy for at least one step longer. -/
theorem busyAfter_of_busySteps {s t : State} {k : Nat} (h : TransGen BusyStep s t) (ht : ∀ j < k, BusyAfter j t) :
    ∀ j < k + 1, BusyAfter j s := by
  induction h using TransGen.head_induction_on with
  | single hstep => exact hstep.busyAfter ht
  | head hstep _ ih => exact hstep.busyAfter fun j hj => ih j (by omega)

/-- The sequencer is in control state `t` with the window held, and reset is not asserted. -/
structure Running (t : St) (s : State) : Prop where
  st : s.st = t
  mapped : s.mapped = true
  reset : s.resetIn = false

/-- A busy step is the rule of the control state. -/
theorem Running.busyStep {c : St} {s t : State} (h : Running c s) (hc : c ≠ .idle)
    (hrule : exec (ruleOf c) s = .next t) : BusyStep s t :=
  ⟨h.st ▸ hc, by rw [step_eq_exec h.reset, h.st, hrule]⟩

/-! ### The request (R80, R105) -/

theorem Running.busyStep_subStep {s t : State} (h : Running .sendChunk s) (hq : s.seq ≠ 0#11)
    (hsub : sendSubStep s = .next t) : BusyStep s t :=
  h.busyStep (by simp) ((execStSendChunk_subStep hq).trans hsub)

theorem Running.step_subStep {s : State} (h : Running .sendChunk s) (hq : s.seq ≠ 0#11) :
    step s = sendSubStep s := by
  rw [step_eq_exec h.reset, h.st]
  exact execStSendChunk_subStep hq

/-- The state `s` at sub-step `q` of its control state, the events `es` recorded. -/
def atSubStep (q : Nat) (es : List Event) (s : State) : State :=
  { s with trace := s.trace ++ es, seq := BitVec.ofNat 11 q }

theorem Running.atSubStep {c : St} {s : State} (h : Running c s) (q : Nat) (es : List Event) :
    Running c (atSubStep q es s) := ⟨h.st, h.mapped, h.reset⟩

/-- The four sub-steps of the header. -/
theorem busySteps_header {s : State} (h : Running .sendChunk s) (hdwords : s.chunkSize.toNat % 4 = 0) :
    ReflTransGen BusyStep (atSubStep 1 [] s) (atSubStep 5 (headerEvents s) s) := by
  have hs (q : Nat) (es : List Event) := h.atSubStep q es
  have header := (hs 1 []).busyStep_subStep (by simp [atSubStep]) (sendSubStep_header h.mapped rfl hdwords)
  have length := (hs 2 ((headerEvents s).take 1)).busyStep_subStep (by simp [atSubStep])
    (sendSubStep_length h.mapped rfl)
  have command := (hs 3 ((headerEvents s).take 2)).busyStep_subStep (by simp [atSubStep])
    (sendSubStep_command h.mapped rfl)
  have reserved := (hs 4 ((headerEvents s).take 3)).busyStep_subStep (by simp [atSubStep])
    (sendSubStep_reserved h.mapped rfl)
  simp only [atSubStep, headerEvents, List.append_assoc, List.take] at *
  exact (((ReflTransGen.single header).tail length).tail command).tail reserved

/-- The events of the first `k` payload dwords. -/
def payloadEventsTo (k : Nat) (s : State) : List Event := (List.range k).flatMap (payloadEvents s)

theorem payloadEventsTo_succ (k : Nat) (s : State) :
    payloadEventsTo (k + 1) s = payloadEventsTo k s ++ payloadEvents s k := by
  simp [payloadEventsTo, List.range_succ]

/-- The sub-steps of a page count without overflow (R12, R13). -/
theorem atSubStep_seq_toNat {q : Nat} (es : List Event) (s : State) (hq : q ≤ 1029) :
    (atSubStep q es s).seq.toNat = q := Nat.mod_eq_of_lt (by omega)

theorem atSubStep_seq_ne {q : Nat} (es : List Event) (s : State) (hq : q ≤ 1029) (hpos : 0 < q) :
    (atSubStep q es s).seq ≠ 0#11 := by
  intro h0
  have hnat := atSubStep_seq_toNat es s hq
  rw [h0] at hnat
  exact hpos.ne hnat

/-- A sub-step that records the events `fs`. -/
theorem atSubStep_succ (q : Nat) (es fs : List Event) (s : State) : atSubStep (q + 1) (es ++ fs) s =
    { atSubStep q es s with trace := (atSubStep q es s).trace ++ fs, seq := (atSubStep q es s).seq + 1#11 } := by
  simp [atSubStep, BitVec.ofNat_add]

/-- `GO` starts the wait from whatever sub-step it is written at. -/
theorem enterWait_emit_atSubStep (q : Nat) (es : List Event) (e : Event) (s : State) :
    enterWait ((atSubStep q es s).emit e) = enterWait (s.emits (es ++ [e])) := by
  simp [enterWait, clearPolls, State.goto, State.emits, State.emit, atSubStep]

/-- The sub-steps of the first `k` payload dwords, all inside the image. -/
theorem busySteps_payload {s : State} {k : Nat} (h : Running .sendChunk s) (es : List Event)
    (hchunk : payloadCount s.chunkSize ≤ 1024) (hk : k ≤ payloadCount s.chunkSize) (hin : ∀ i < k, DwordInImage s i) :
    ReflTransGen BusyStep (atSubStep 5 es s) (atSubStep (5 + k) (es ++ payloadEventsTo k s) s) := by
  induction k with
  | zero => simpa [payloadEventsTo] using ReflTransGen.refl
  | succ k ih =>
    have hdword := sendSubStep_inImage (s := atSubStep (5 + k) (es ++ payloadEventsTo k s) s) h.mapped
      (atSubStep_seq_toNat _ _ (by omega)) hk (hin k (by omega))
    have hstep := (h.atSubStep _ _).busyStep_subStep (atSubStep_seq_ne _ _ (by omega) (by omega)) hdword
    rw [payloadEventsTo_succ, ← List.append_assoc, ← Nat.add_assoc, atSubStep_succ]
    exact (ih (by omega) fun i hi => hin i (by omega)).tail hstep

/-- A request of whole dwords inside the image: its sub-steps are the events of `ENCODE`, and the wait begins. -/
theorem busySteps_request {s : State} (h : Running .sendChunk s) (hq : s.seq = 1#11)
    (hchunk : s.chunkSize.toNat ≤ 4096) (hdwords : s.chunkSize.toNat % 4 = 0) (hin : RequestInImage s) :
    TransGen BusyStep s (enterWait (s.emits (requestEvents s))) := by
  have hcount : payloadCount s.chunkSize ≤ 1024 := by unfold payloadCount; omega
  have hstart : atSubStep 1 [] s = s := by simp [atSubStep, ← hq]
  have hgo := sendSubStep_go
    (s := atSubStep (5 + payloadCount s.chunkSize) (headerEvents s ++ payloadEventsTo (payloadCount s.chunkSize) s) s)
    h.mapped (atSubStep_seq_toNat _ _ (by omega))
  have hlast := (h.atSubStep _ _).busyStep_subStep (atSubStep_seq_ne _ _ (by omega) (by omega)) hgo
  have hsteps := (busySteps_header h hdwords).trans (busySteps_payload h (headerEvents s) hcount le_rfl hin)
  rw [hstart] at hsteps
  rw [enterWait_emit_atSubStep] at hlast
  exact TransGen.tail' hsteps hlast

/-- A request with a dword outside the image comes to a sub-step that is the model fault U1. -/
theorem busySteps_request_fault {s : State} (h : Running .sendChunk s) (hq : s.seq = 1#11)
    (hchunk : s.chunkSize.toNat ≤ 4096) (hdwords : s.chunkSize.toNat % 4 = 0) (hout : ¬ RequestInImage s) :
    ∃ t, ReflTransGen BusyStep s t ∧ step t = .fault .imageOutOfBounds := by
  have hcount : payloadCount s.chunkSize ≤ 1024 := by unfold payloadCount; omega
  have hstart : atSubStep 1 [] s = s := by simp [atSubStep, ← hq]
  have hexists : ∃ i, i < payloadCount s.chunkSize ∧ ¬ DwordInImage s i := by
    simpa [RequestInImage, payloadCount] using hout
  classical
  obtain ⟨hi, hfirst⟩ := Nat.find_spec hexists
  have hbefore (i : Nat) (hlt : i < Nat.find hexists) : DwordInImage s i :=
    not_not.1 fun hn => Nat.find_min hexists hlt ⟨hlt.trans hi, hn⟩
  have hsteps := (busySteps_header h hdwords).trans (busySteps_payload h (headerEvents s) hcount hi.le hbefore)
  rw [hstart] at hsteps
  refine ⟨_, hsteps, ?_⟩
  rw [(h.atSubStep _ _).step_subStep (atSubStep_seq_ne _ _ (by omega) (by omega))]
  exact sendSubStep_outOfImage (atSubStep_seq_toNat _ _ (by omega)) hi hfirst

/-! ### The wait (R106) -/

/-- The polls of `POLL` are the steps of WaitReady, of which the last ends the wait. -/
theorem busySteps_pollUpTo {k : Nat} {s t : State} (h : Running .waitReady s) (hk : 0 < k)
    (hcount : s.pollCount.toNat + k = Config.pollMax) (hpoll : pollUpTo k s = .next t) :
    TransGen BusyStep s (endPoll t) ∧ Running .waitReady t ∧ waitEnds t.lastStatus t = true := by
  induction k generalizing s with
  | zero => omega
  | succ k ih =>
    have hsampled : Running .waitReady (afterPolls [] (statusAnswer s) s) := ⟨h.st, h.mapped, h.reset⟩
    have hstep : BusyStep s (endPoll (afterPolls [] (statusAnswer s) s)) := by
      refine h.busyStep (by simp) ((execStWaitReady_mapped h.mapped).trans ?_)
      rw [afterStatusRead_tickPort]
    have hnat := pollCount_afterPolls_one (statusAnswer s) (s := s) (by omega)
    rw [pollUpTo, pollOnce_mapped h.mapped, andThen_next] at hpoll
    split at hpoll
    next hends =>
      obtain rfl := Host.Outcome.next.inj hpoll
      exact ⟨.single hstep, hsampled, hends⟩
    next hgoes =>
      have hstays : endPoll (afterPolls [] (statusAnswer s) s) = afterPolls [] (statusAnswer s) s := by
        obtain ⟨-, -, hp⟩ | ⟨hready, -⟩ | ⟨hends, -⟩ | ⟨hends, -⟩ := endPoll_cases (afterPolls [] (statusAnswer s) s)
        · exact hp
        · exact absurd (waitEnds_ready hready) hgoes
        · exact absurd hends hgoes
        · exact absurd hends hgoes
      have hmore : s.pollCount.toNat + 1 ≠ Config.pollMax := by
        rw [← hnat]
        exact pollCount_ne_of_waitGoesOn (by simpa using hgoes)
      obtain ⟨hrest, ht⟩ := ih hsampled (by omega) (by omega) hpoll
      rw [hstays] at hstep
      exact ⟨.head hstep hrest, ht⟩

/-! ### The response (R90, R91) -/

/-- What the read of response dword `l` leaves, its echo checked. -/
def afterRead (l : Latch) (s : State) : State := checkEcho (readSubStep l) (afterRdataRead (some l) s)

theorem Running.afterRead {s : State} (h : Running .readResponse s) (l : Latch) :
    Running .readResponse (afterRead l s) := by
  unfold Machine.afterRead
  rw [checkEcho_eq, afterRdataRead_eq]
  exact ⟨h.st, h.mapped, h.reset⟩

theorem Running.withSeq {c : St} {s : State} (h : Running c s) (q : BitVec 11) : Running c { s with seq := q } :=
  ⟨h.st, h.mapped, h.reset⟩

/-- What the read-acknowledge of response dword `l` leaves. -/
def afterResponseDword (l : Latch) (s : State) : State :=
  (afterRead l s).emit (.wr .rdata (regAddr (afterRead l s).base .rdata) 0#32)

theorem Running.afterResponseDword {s : State} (h : Running .readResponse s) (l : Latch) :
    Running .readResponse (afterResponseDword l s) :=
  ⟨(h.afterRead l).st, (h.afterRead l).mapped, (h.afterRead l).reset⟩

/-- `DECODE` is the read-acknowledges of the four latches. -/
theorem execDecode_running {s : State} (h : Running .readResponse s) :
    execDecode s = .next (afterResponseDword .flags (afterResponseDword .next (afterResponseDword .length
      (afterResponseDword .header s)))) := by
  have h1 := h.afterResponseDword .header
  have h2 := h1.afterResponseDword .length
  have h3 := h2.afterResponseDword .next
  have rdack {t : State} (l : Latch) (ht : t.mapped = true) : rdackPort (some l) t =
      .next ((afterRdataRead (some l) t).emit (.wr .rdata (regAddr (afterRdataRead (some l) t).base .rdata) 0#32)) :=
    rdackPort_eq_next.2 ⟨ht, by rw [afterRdataRead_eq]⟩
  rw [execDecode, rdack .header h.mapped, andThen_next]
  change andThen (rdackPort (some .length) (Machine.afterResponseDword .header s)) _ = _
  rw [rdack .length h1.mapped, andThen_next]
  change andThen (rdackPort (some .next) (Machine.afterResponseDword .length _)) _ = _
  rw [rdack .next h2.mapped, andThen_next]
  exact rdack .flags h3.mapped

/-- The read of response dword `l`. -/
theorem Running.busyStep_read {s : State} (h : Running .readResponse s) (l : Latch) :
    BusyStep { s with seq := readSubStep l } { Machine.afterRead l s with seq := readSubStep l + 1#11 } := by
  have hs := h.withSeq (readSubStep l)
  have heven : readSubStep l = 0#11 ∨ readSubStep l = 2#11 ∨ readSubStep l = 4#11 ∨ readSubStep l = 6#11 := by
    cases l <;> decide
  refine hs.busyStep (by simp) ?_
  change execStReadResponse _ = _
  rw [execStReadResponse, if_pos heven, execRdRdata, latchOf_eq_some.2 rfl, rdRdataPort_mapped hs.mapped, andThen_next,
    Machine.afterRead, checkEcho_eq, checkEcho_eq, afterRdataRead_eq, afterRdataRead_eq]
  rfl

/-- A response dword before the last: its read and its acknowledge. -/
theorem busySteps_responseDword {s : State} (h : Running .readResponse s) {l : Latch} (hl : l ≠ .flags) :
    ReflTransGen BusyStep { s with seq := readSubStep l }
      { afterResponseDword l s with seq := readSubStep l + 1#11 + 1#11 } := by
  have hodd : readSubStep l + 1#11 = 1#11 ∨ readSubStep l + 1#11 = 3#11 ∨ readSubStep l + 1#11 = 5#11 := by
    cases l with
    | flags => exact absurd rfl hl
    | header | length | next => decide
  have hread := (h.afterRead l).withSeq (readSubStep l + 1#11)
  have hack := hread.busyStep (by simp) (execStReadResponse_acknowledge hread.mapped hodd)
  exact (ReflTransGen.single (h.busyStep_read l)).tail hack

/-- The end of a response leaves `seq` at 0 whatever it was. -/
theorem endResponse_withSeq (s : State) (q : BitVec 11) : endResponse { s with seq := q } = endResponse s := by
  rw [endResponse_eq, endResponse_eq]

/-- The last response dword: its read, its acknowledge and the end of the response. -/
theorem busySteps_lastResponseDword {s : State} (h : Running .readResponse s) :
    TransGen BusyStep { s with seq := readSubStep .flags } (endResponse (afterResponseDword .flags s)) := by
  have hread := (h.afterRead .flags).withSeq (readSubStep .flags + 1#11)
  have hack := hread.busyStep (by simp) (execStReadResponse_lastAcknowledge hread.mapped rfl)
  rw [← endResponse_withSeq _ (readSubStep .flags + 1#11)]
  exact (TransGen.single (h.busyStep_read .flags)).tail hack

/-- `DECODE` and the end of the response are the steps of ReadResponse. -/
theorem busySteps_decode {s : State} (h : Running .readResponse s) (hq : s.seq = 0#11) :
    ∃ d, execDecode s = .next d ∧ TransGen BusyStep s (endResponse d) ∧ Running .readResponse d := by
  have h1 := h.afterResponseDword .header
  have h2 := h1.afterResponseDword .length
  have h3 := h2.afterResponseDword .next
  have hstart : { s with seq := readSubStep .header } = s := by
    rw [readSubStep, ← hq]
  have header := busySteps_responseDword h (l := .header) (by simp)
  rw [hstart] at header
  refine ⟨_, execDecode_running h, ?_, h3.afterResponseDword .flags⟩
  exact TransGen.trans_right ((header.trans (busySteps_responseDword h1 (l := .length) (by simp))).trans
    (busySteps_responseDword h2 (l := .next) (by simp))) (busySteps_lastResponseDword h3)

/-! ### A turn of the loop (R121) -/

/-- The loop of `STAGE` stands before a planning step. -/
structure AtTurn (s : State) : Prop where
  running : Running .sendChunk s
  seq : s.seq = 0#11

/-- The loop of `STAGE` has ended: the finishing step is next. -/
structure Finishing (s : State) : Prop where
  st : s.st = .done ∨ s.st = .failed
  reset : s.resetIn = false

/-- What a turn answers, and the small steps from `s` that come to it. -/
inductive TurnOutcome (s : State) : Res → Prop where
  | goesOn {t : State} : TransGen BusyStep s t → AtTurn t → TurnOutcome s (.next t)
  | ends {t : State} : TransGen BusyStep s t → Finishing t → TurnOutcome s (.next t)
  | faults {t : State} {e : Fault} :
      ReflTransGen BusyStep s t → step t = .fault e → e ≠ .runNeverEnds → TurnOutcome s (.fault e)

/-- The end of a response goes on with the loop or ends it. -/
theorem turnOutcome_endResponse {s d : State} (h : Running .readResponse d)
    (hsteps : TransGen BusyStep s (endResponse d)) : TurnOutcome s (.next (endResponse d)) := by
  obtain ⟨-, hend⟩ | ⟨-, -, hend⟩ | ⟨-, -, hend⟩ := endResponse_cases d <;> rw [hend] at hsteps ⊢
  · exact .ends hsteps ⟨.inr rfl, h.reset⟩
  · exact .ends hsteps ⟨.inl rfl, h.reset⟩
  · exact .goesOn hsteps ⟨⟨rfl, h.mapped, h.reset⟩, rfl⟩

/-- A transaction whose wait fails. -/
theorem transaction_of_failedWait {s p e q : State} (hplan : planChunk s = p) (hp : p.st ≠ .failed)
    (hencode : execEncode p = .next e) (hpoll : execPoll (enterWait e) = .next q) (hfail : (endPoll q).st = .failed) :
    transaction s = .next (endPoll q) := by
  rw [transaction, hplan, if_neg hp, hencode, andThen_next, hpoll, andThen_next, if_neg (by simp [hfail])]

/-- The wait and the response of a transaction whose request came through. -/
theorem turnOutcome_of_request {s p e : State} (hplan : planChunk s = p) (hp : p.st ≠ .failed)
    (hencode : execEncode p = .next e) (hwait : Running .waitReady (enterWait e))
    (hsteps : TransGen BusyStep s (enterWait e)) : TurnOutcome s (transaction s) := by
  obtain ⟨q, hpoll⟩ : ∃ q, execPoll (enterWait e) = .next q := by
    obtain ⟨_, _, -, -, -, -, -, hpoll⟩ := pollStopsAtFirstExit (enterWait e) _ hwait.mapped fun _ => Iff.rfl
    exact ⟨_, hpoll⟩
  obtain ⟨hpolls, hq, hends⟩ := busySteps_pollUpTo hwait (k := Config.pollMax) (by simp)
    (Nat.zero_add _) hpoll
  have hsteps := hsteps.trans hpolls
  have failed (hfail : (endPoll q).st = .failed) (hr : (endPoll q).resetIn = false) :
      TurnOutcome s (transaction s) := by
    rw [transaction_of_failedWait hplan hp hencode hpoll hfail]
    exact .ends hsteps ⟨.inr hfail, hr⟩
  obtain ⟨hgoes, -, -⟩ | ⟨hready, hend⟩ | ⟨-, -, hend⟩ | ⟨-, -, hend⟩ := endPoll_cases q
  · exact absurd hends (by simp [hgoes])
  · rw [hend] at hsteps
    obtain ⟨d, hdecode, hresponse, hd⟩ := busySteps_decode (s := sampledReady q) ⟨rfl, hq.mapped, hq.reset⟩ rfl
    rw [transaction_of_parts hplan hp hencode hpoll hready hdecode]
    exact turnOutcome_endResponse hd (hsteps.trans hresponse)
  · exact failed (by rw [hend]; rfl) (by rw [hend]; exact hq.reset)
  · exact failed (by rw [hend]; rfl) (by rw [hend]; exact hq.reset)

/-- A transaction whose request is a model fault. -/
theorem transaction_of_fault {s p : State} {e : Fault} (hplan : planChunk s = p) (hp : p.st ≠ .failed)
    (hencode : execEncode p = .fault e) : transaction s = .fault e := by
  rw [transaction, hplan, if_neg hp, hencode, andThen_fault]

/-- A transaction is a run of the small steps. -/
theorem turnOutcome_transaction {s : State} (h : AtTurn s) : TurnOutcome s (transaction s) := by
  have hplan : BusyStep s (planChunk s) := h.running.busyStep (by simp) (execStSendChunk_plan h.seq)
  obtain ⟨-, hp⟩ | ⟨-, hp⟩ := planChunk_cases s
  · have hfail : (planChunk s).st = .failed := by rw [hp]; rfl
    rw [transaction, if_pos hfail]
    exact .ends (.single hplan) ⟨.inr hfail, by rw [hp]; exact h.running.reset⟩
  · generalize hc : chunkSizeOf s.totalSize s.offset = c at hp
    have hpage : c.toNat ≤ 4096 := hc ▸ chunkSizeOf_le_page ..
    have hrunning : Running .sendChunk { s with chunkSize := c, seq := 1#11 } :=
      ⟨h.running.st, h.running.mapped, h.running.reset⟩
    have hst : { s with chunkSize := c, seq := 1#11 }.st ≠ .failed := by
      rw [hrunning.st]
      simp
    rw [hp] at hplan
    by_cases hdwords : c.toNat % 4 = 0
    · by_cases hin : RequestInImage { s with chunkSize := c, seq := 1#11 }
      · exact turnOutcome_of_request hp hst (execEncode_inImage hrunning.mapped hdwords hin)
          ⟨rfl, hrunning.mapped, hrunning.reset⟩ (.head hplan (busySteps_request hrunning rfl hpage hdwords hin))
      · obtain ⟨t, hsteps, hfault⟩ := busySteps_request_fault hrunning rfl hpage hdwords hin
        rw [transaction_of_fault hp hst ((encodeModelFaults _).2 hrunning.mapped hdwords hin)]
        exact .faults (.head hplan hsteps) hfault (by simp)
    · rw [transaction_of_fault hp hst ((encodeModelFaults _).1 hdwords)]
      refine .faults (.single hplan) ?_ (by simp)
      exact (hrunning.step_subStep (by simp)).trans (sendSubStep_notDwords rfl hdwords)

/-! ### The whole run (R121) -/

/-- What a run answers, and the small steps from `s` that come to it or go on without end. -/
inductive RunOutcome (s : State) : Res → Prop where
  | ends {t : State} : ReflTransGen BusyStep s t → Finishing t → RunOutcome s (.next (finish t))
  | faults {t : State} {e : Fault} :
      ReflTransGen BusyStep s t → step t = .fault e → e ≠ .runNeverEnds → RunOutcome s (.fault e)
  | runsOn : (∀ k, BusyAfter k s) → RunOutcome s (.fault .runNeverEnds)

/-- Small steps before a run. -/
theorem RunOutcome.after {s t : State} {r : Res} (hsteps : TransGen BusyStep s t) (h : RunOutcome t r) :
    RunOutcome s r := by
  cases h with
  | ends hrest hend => exact .ends (hsteps.to_reflTransGen.trans hrest) hend
  | faults hrest hfault hne => exact .faults (hsteps.to_reflTransGen.trans hrest) hfault hne
  | runsOn hbusy => exact .runsOn fun k => busyAfter_of_busySteps hsteps (fun j _ => hbusy j) k k.lt_succ_self

/-- A loop that ends within `k` turns is a run of the small steps. -/
theorem runOutcome_stageTurns {k : Nat} {s : State} {r : Res} (h : AtTurn s) (hturns : stageTurns k s = some r) :
    RunOutcome s r := by
  induction k generalizing s with
  | zero => cases hturns
  | succ k ih =>
    have hturn := turnOutcome_transaction h
    rw [stageTurns] at hturns
    generalize transaction s = turn at hturn hturns
    cases hturn with
    | goesOn hsteps ht => exact (ih ht (by simpa [ht.running.st] using hturns)).after hsteps
    | @ends t hsteps ht =>
      have hst : t.st ≠ .sendChunk := by
        obtain hst | hst := ht.st <;> simp [hst]
      obtain rfl : .next (finish t) = r := by simpa [hst] using hturns
      exact .ends hsteps.to_reflTransGen ht
    | faults hsteps hfault hne =>
      obtain rfl := Option.some.inj hturns
      exact .faults hsteps hfault hne

/-- A loop that never ends keeps the small steps outside Idle. -/
theorem busyAfter_of_stageLoop_none {s : State} (h : AtTurn s) (hnone : stageLoop s = none) (k : Nat) :
    ∀ j < k, BusyAfter j s := by
  induction k generalizing s with
  | zero => simp
  | succ k ih =>
    have hturn := turnOutcome_transaction h
    rw [stageLoop] at hnone
    generalize transaction s = turn at hturn hnone
    cases hturn with
    | goesOn hsteps ht => exact busyAfter_of_busySteps hsteps (ih ht (by simpa [ht.running.st] using hnone))
    | ends hsteps ht => obtain hst | hst := ht.st <;> simp [hst] at hnone
    | faults => cases hnone

/-- The finishing step of Done or Failed. -/
theorem Finishing.busyStep {s : State} (h : Finishing s) : BusyStep s (finish s) := by
  refine ⟨by obtain hst | hst := h.st <;> simp [hst], ?_⟩
  rw [step_eq_exec h.reset]
  obtain hst | hst := h.st <;> rw [hst] <;> rfl

/-- The loop of `STAGE` is a run of the small steps. -/
theorem runOutcome_stageLoop {s : State} (h : AtTurn s) : RunOutcome s ((stageLoop s).getD (.fault .runNeverEnds)) := by
  cases hloop : stageLoop s with
  | none => exact .runsOn fun k => busyAfter_of_stageLoop_none h hloop (k + 1) k k.lt_succ_self
  | some r =>
    obtain ⟨k, hturns⟩ := stageLoop_eq_some.1 hloop
    exact runOutcome_stageTurns h hturns

/-- After `START` the run gets no window and finishes, or comes to the loop. -/
theorem runOutcome_stageRun {s : State} (hst : s.st = .init) (hr : s.resetIn = false) : RunOutcome s (stageRun s) := by
  have hinit : BusyStep s (initStep s) := ⟨by simp [hst], by rw [step_eq_exec hr, hst]; rfl⟩
  have hreset : (initStep s).resetIn = false := by
    obtain ⟨-, h⟩ | ⟨-, h⟩ := initStep_cases s <;> rw [h, mapPort_eq] <;> exact hr
  obtain ⟨hok, h⟩ | ⟨-, h⟩ := initStep_cases s
  · have hrunning : Running .aborting (initStep s) := by
      refine ⟨by rw [h]; rfl, ?_, hreset⟩
      rw [h, mapPort_eq]
      exact if_pos hok
    have habort := execStAborting_mapped hrunning.mapped
    rw [stageRun, if_neg (by simp [hrunning.st]), habort, andThen_next]
    exact RunOutcome.after ((TransGen.single hinit).tail (hrunning.busyStep (by simp) habort))
      (runOutcome_stageLoop ⟨⟨rfl, hrunning.mapped, hreset⟩, rfl⟩)
  · have hfail : (initStep s).st = .failed := by rw [h]; rfl
    rw [stageRun, if_pos hfail]
    exact .ends (.single hinit) ⟨.inr hfail, hreset⟩

/-- The report is the last event of a run. -/
theorem finish_trace (s : State) : ∃ es, (finish s).trace =
    es ++ [.done (decide ((finish s).outcome = .ok)) (finish s).outcome (finish s).warnHdr (finish s).warnLen] := by
  rw [finish_eq]
  exact ⟨_, rfl⟩

/-- Settles O58: the run before the loop, then the loop by its turns, each a chain of small steps. -/
theorem stageAgreesWithSteps : Obligations.StageAgreesWithSteps := by
  intro s u b t hr hstart
  obtain ⟨-, hu⟩ := execStart_eq_next.1 hstart
  have hstage : exec (.stage b t) s = stageRun u := by
    change andThen (exec (.start b t) s) stageRun = _
    rw [hstart, andThen_next]
  have hrun := runOutcome_stageRun (s := u) (by rw [hu]; rfl) (by rw [hu]; exact hr)
  rw [hstage]
  generalize stageRun u = r at hrun
  cases hrun with
  | ends hsteps hend => exact ⟨rfl, finish_trace _, exists_run_of_busySteps (hsteps.tail hend.busyStep)⟩
  | @faults _ e hsteps hfault hne =>
    cases e with
    | runNeverEnds => exact absurd rfl hne
    | _ => exact exists_run_fault_of_busySteps hsteps hfault
  | runsOn hbusy => exact hbusy

end Sys2Proof.Machine

/-! The exceptions (spec/60_exceptions.md): the failure entry, and the table of the steps that can fail. -/

namespace Sys2Proof.Machine

/-! ### The failure entry (R137) -/

/-- Settles O33: both codes are the one failure entry, with no branch. -/
theorem failureEntry : Obligations.FailureEntry := fun _ => ⟨rfl, rfl⟩

/-- The end of a poll leaves its sample (R106). -/
@[simp] theorem endPoll_lastStatus (s : State) : (endPoll s).lastStatus = s.lastStatus := by
  obtain ⟨-, -, h⟩ | ⟨-, h⟩ | ⟨-, -, h⟩ | ⟨-, -, h⟩ := endPoll_cases s <;> rw [h] <;> rfl

/-- The end of a poll leaves the count of the polls (R106). -/
@[simp] theorem endPoll_pollCount (s : State) : (endPoll s).pollCount = s.pollCount := by
  obtain ⟨-, -, h⟩ | ⟨-, h⟩ | ⟨-, -, h⟩ | ⟨-, -, h⟩ := endPoll_cases s <;> rw [h] <;> rfl

end Sys2Proof.Machine

namespace Sys2Proof.Safety

open Sys2Proof.Machine

/-! ### The failure table (R134) -/

section
variable {s t u : State}

/-- The table reads of the state after the step only the sample and the count of its poll. -/
theorem failureOf_congr (hw : t.lastStatus = u.lastStatus) (hp : t.pollCount = u.pollCount) :
    failureOf s t = failureOf s u := by
  rw [failureOf, failureOf, hw, hp]

theorem failureOf_init (hst : s.st = .init) :
    failureOf s t = if mapAnswer s = .fail then some .error else none := by
  simp [failureOf, hst]

/-- The budget row, in the words of the planning step. -/
theorem failureOf_plan (hst : s.st = .sendChunk) (hq : s.seq = 0#11) : failureOf s t =
    if overBudget s.bytesTransferred (chunkSizeOf s.totalSize s.offset) s.totalSize = true then some .timeout
    else none := by
  simp [failureOf, hst, hq, overBudget, Config.budgetFactor]

theorem failureOf_subStep (hst : s.st = .sendChunk) (hq : s.seq ≠ 0#11) : failureOf s t = none := by
  simp [failureOf, hst, hq]

/-- The two rows of the wait, in the order in which the end of a poll tests the sample. -/
theorem failureOf_waitReady (hst : s.st = .waitReady) (hcfg : t.cfg = s.cfg) : failureOf s t =
    if t.lastStatus.getLsbD 2 = true then (if waitEnds t.lastStatus t = true then some .error else none)
    else if t.lastStatus.getLsbD 31 = true then none
    else if t.pollCount.toNat = 10000 then some .timeout
    else none := by
  simp only [failureOf, waitEnds_iff, hcfg, pollMax_eq]
  generalize t.lastStatus.getLsbD 2 = error
  generalize t.lastStatus.getLsbD 31 = ready
  cases error with
  | true => simp [hst]
  | false => cases ready <;> simp [hst]

theorem failureOf_readResponse (hst : s.st = .readResponse) : failureOf s t =
    if s.seq = 7#11 ∧ respErrorSet s.cfg s.respFlags = true then some .error else none := by
  simp [failureOf, hst, respErrorSet]

/-- A control state with no way into Failed has no row. -/
theorem failureOf_of_cannotFail (h : isTransition s.st .failed = false) : failureOf s t = none := by
  cases hst : s.st <;> simp_all [failureOf, isTransition]

end

/-- `t` is in Failed with the outcome of the row `f` where there is one, and not in Failed where there is none. -/
def FailsWith (f : Option FailKind) (t : State) : Prop :=
  (t.st = .failed ↔ f ≠ none) ∧ ∀ k, f = some k → t.outcome = k.outcome

theorem failsWith_raiseFail (k : FailKind) (s : State) : FailsWith (some k) (raiseFail k s) := by
  simp [FailsWith]

theorem failsWith_none {t : State} (h : t.st ≠ .failed) : FailsWith none t := by
  simp [FailsWith, h]

theorem initStep_failsWith {s : State} (hst : s.st = .init) : FailsWith (failureOf s (initStep s)) (initStep s) := by
  rw [failureOf_init hst]
  obtain ⟨ha, h⟩ | ⟨ha, h⟩ := initStep_cases s <;> rw [h, ha]
  · exact failsWith_none (by simp)
  · exact failsWith_raiseFail ..

theorem planChunk_failsWith {s : State} (hst : s.st = .sendChunk) (hq : s.seq = 0#11) :
    FailsWith (failureOf s (planChunk s)) (planChunk s) := by
  rw [failureOf_plan hst hq]
  obtain ⟨hb, h⟩ | ⟨hb, h⟩ := planChunk_cases s <;> rw [h, hb]
  · exact failsWith_raiseFail ..
  · exact failsWith_none (by simp [hst])

theorem execStSendChunk_failsWith {s t : State} (hst : s.st = .sendChunk) (h : execStSendChunk s = .next t) :
    FailsWith (failureOf s t) t := by
  obtain ⟨hq, rfl⟩ | ⟨hq, hsub⟩ := execStSendChunk_cases h
  · exact planChunk_failsWith hst hq
  · rw [failureOf_subStep hst hq]
    obtain ⟨-, ⟨-, -, es, rfl⟩ | rfl⟩ := sendSubStep_advances hsub
    · exact failsWith_none (by simp [hst])
    · exact failsWith_none (by simp [enterWait])

/-- The end of a poll, on the state `u` that holds its sample, fails as the two rows of the wait say. -/
theorem endPoll_failsWith {s u : State} (hst : s.st = .waitReady) (hcfg : u.cfg = s.cfg) (hu : u.st = .waitReady) :
    FailsWith (failureOf s (endPoll u)) (endPoll u) := by
  have hgoes : FailsWith none u := failsWith_none (by simp [hu])
  rw [failureOf_congr (endPoll_lastStatus u) (endPoll_pollCount u), failureOf_waitReady hst hcfg, endPoll_eq]
  split_ifs
  · exact failsWith_raiseFail ..
  · exact hgoes
  · exact failsWith_none (by simp [sampledReady])
  · exact failsWith_raiseFail ..
  · exact hgoes

theorem execStWaitReady_failsWith {s t : State} (hst : s.st = .waitReady) (h : execStWaitReady s = .next t) :
    FailsWith (failureOf s t) t := by
  obtain ⟨-, rfl⟩ := execStWaitReady_cases h
  apply endPoll_failsWith hst <;> rw [afterStatusRead_eq]
  · rfl
  · exact hst

theorem execStReadResponse_failsWith {s t : State} (hst : s.st = .readResponse) (h : execStReadResponse s = .next t) :
    FailsWith (failureOf s t) t := by
  rw [failureOf_readResponse hst]
  obtain ⟨-, ⟨hq, rfl⟩ | ⟨hq, rfl⟩ | ⟨hq, rfl⟩⟩ := execStReadResponse_cases h
  · have hnotLast : s.seq ≠ 7#11 := by rcases hq with hq | hq | hq | hq <;> simp [hq]
    rw [if_neg fun hrow => hnotLast hrow.1, checkEcho_eq, afterRdataRead_eq]
    exact failsWith_none (by simp [hst])
  · have hnotLast : s.seq ≠ 7#11 := by rcases hq with hq | hq | hq <;> simp [hq]
    rw [if_neg fun hrow => hnotLast hrow.1]
    exact failsWith_none (by simp [hst])
  · obtain ⟨hf, he⟩ | ⟨hf, -, he⟩ | ⟨hf, -, he⟩ :=
      endResponse_cases (s.emit (.wr .rdata (regAddr s.base .rdata) 0#32)) <;> rw [he]
    · rw [if_pos ⟨hq, hf⟩]
      exact failsWith_raiseFail ..
    · rw [if_neg fun hrow => absurd hrow.2 (by simpa using hf)]
      exact failsWith_none (by simp [endOfImage])
    · rw [if_neg fun hrow => absurd hrow.2 (by simpa using hf)]
      exact failsWith_none (by simp [nextChunk])

/-- A step that R112 keeps out of Failed fails as the table says: not at all. -/
theorem failsWith_of_cannotFail {s t : State} (hs : isTransition s.st .failed = false)
    (ht : isTransition s.st t.st = true) : FailsWith (failureOf s t) t := by
  rw [failureOf_of_cannotFail hs]
  refine failsWith_none fun hfailed => ?_
  rw [hfailed, hs] at ht
  cases ht

/-- Settles O46: the four control states that can fail by their rules, the others by R112. -/
theorem failureTableIsComplete : Obligations.FailureTableIsComplete := by
  intro s t hr h
  exact step_elim h (P := fun t => isTransition s.st t.st = true → FailsWith (failureOf s t) t)
    (reset := fun hr' => absurd hr' (by simp [hr]))
    (idle := fun hst _ => failsWith_of_cannotFail (by rw [hst]; rfl))
    (init := fun hst _ => initStep_failsWith hst)
    (aborting := fun hst _ => failsWith_of_cannotFail (by rw [hst]; rfl))
    (sendChunk := fun hst h _ => execStSendChunk_failsWith hst h)
    (waitReady := fun hst h _ => execStWaitReady_failsWith hst h)
    (readResponse := fun hst h _ => execStReadResponse_failsWith hst h)
    (finishing := fun hst => failsWith_of_cannotFail (by obtain hst | hst := hst <;> rw [hst] <;> rfl))
    (controlTransitionsAreClosed s t hr h)

end Sys2Proof.Safety

/-! Reset and hazards (spec/70_reset_and_hazards.md): an asserted reset, the end of every wait, and the order of the
events of a run. -/

namespace Sys2Proof.Machine

/-! ### Reset (R160) -/

/-- Settles O7: the step is the reset, which keeps the parameters and the environment's data alone. -/
theorem assertedResetAbandonsRun : Obligations.AssertedResetAbandonsRun := fun s hr =>
  ⟨hardReset s, step_of_reset hr, rfl, rfl, rfl, rfl, rfl, rfl, rfl, rfl, rfl, rfl, rfl, rfl, rfl, rfl, rfl⟩

/-- The end of a poll leaves the reset line (R160). -/
@[simp] theorem endPoll_resetIn (s : State) : (endPoll s).resetIn = s.resetIn := by
  obtain ⟨-, -, h⟩ | ⟨-, h⟩ | ⟨-, -, h⟩ | ⟨-, -, h⟩ := endPoll_cases s <;> rw [h] <;> rfl

end Sys2Proof.Machine

namespace Sys2Proof.Safety

open Sys2Proof.Machine

/-! ### The end of a wait (R106, R171) -/

/-- A step of WaitReady that stays there has made one more poll. -/
theorem step_waitReady {s : State} (hs : ControlInv s) (h : Running .waitReady s) :
    ∃ t, step s = .next t ∧ ControlInv t
      ∧ (t.st = .waitReady → Running .waitReady t ∧ t.pollCount.toNat = s.pollCount.toNat + 1) := by
  obtain ⟨-, -, -, hpolls⟩ := hs.atState h.st
  have hrule : step s = .next (endPoll (afterPolls [] (statusAnswer s) s)) := by
    rw [step_eq_exec h.reset, h.st, ← afterStatusRead_tickPort]
    exact execStWaitReady_mapped h.mapped
  have ht := stepKeepsControlInv s _ hs hrule
  refine ⟨_, hrule, ht, fun hst => ⟨⟨hst, (ht.atState hst).2.1, ?_⟩, ?_⟩⟩
  · rw [endPoll_resetIn]
    exact h.reset
  · rw [endPoll_pollCount]
    exact pollCount_afterPolls_one _ hpolls

/-- With `n` polls left before the last admitted one, a wait ends within `n` steps. -/
theorem exists_run_leaves_waitReady {n : Nat} {s : State} (hs : ControlInv s) (h : Running .waitReady s)
    (hleft : Config.pollMax ≤ s.pollCount.toNat + n) :
    ∃ (k : Nat) (t : State), k ≤ n ∧ core.run k s = .next t ∧ t.st ≠ .waitReady := by
  induction n generalizing s with
  | zero =>
    obtain ⟨-, -, -, hpolls⟩ := hs.atState h.st
    omega
  | succ n ih =>
    obtain ⟨t, hstep, ht, hstays⟩ := step_waitReady hs h
    have hrun (k : Nat) : core.run (k + 1) s = core.run k t := run_succ_of_next (M := core) hstep k
    by_cases hst : t.st = .waitReady
    · obtain ⟨hrunning, hcount⟩ := hstays hst
      obtain ⟨k, u, hk, hu, hend⟩ := ih ht hrunning (by omega)
      exact ⟨k + 1, u, Nat.succ_le_succ hk, (hrun k).trans hu, hend⟩
    · exact ⟨1, t, Nat.le_add_left 1 n, hrun 0, hst⟩

/-- Settles O55: at most `POLL_MAX` polls are left in any state of the wait. -/
theorem waitEndsWithinPollMax : Obligations.WaitEndsWithinPollMax := fun s hs hr hst =>
  exists_run_leaves_waitReady hs ⟨hst, (hs.atState hst).2.1, hr⟩ (Nat.le_add_left 10000 s.pollCount.toNat)

/-! ### The order of the events of a run (R163 to R168) -/

/-- The trace of the run brings the monitor to `m`. -/
def TraceAt (s : State) (m : Mon) : Prop := monRun s.cfg s.base .fresh s.trace = some m

/-- What the monitor expects at sub-step `q` of SendChunk, for a chunk of `n` payload dwords (R105). -/
def requestMon (n : Nat) : Nat → Mon
  | 0 | 1 => .between
  | 2 => .length
  | 3 => .command n
  | 4 => .reserved n
  | i + 5 => .payload (n - i)

theorem requestMon_payload (n i : Nat) : requestMon n (5 + i) = .payload (n - i) := by
  rw [Nat.add_comm, requestMon]

/-- The monitor after the most recent Status sample of the wait. -/
abbrev lastSample (s : State) : Mon := .sampled s.pollCount.toNat s.lastStatus

/-- Where `follows` puts the monitor in a control state. -/
def MonAt (s : State) (m : Mon) : St → Prop
  | .idle => m = .fresh ∨ m = .ended
  | .init => m = .mapping
  | .aborting => m = .aborting
  | .sendChunk => m = requestMon (payloadCount s.chunkSize) s.seq.toNat
  | .waitReady => (s.pollCount.toNat = 0 → m = .gone)
      ∧ (s.pollCount.toNat ≠ 0 → m = lastSample s ∧ waitEnds s.lastStatus s = false)
  | .readResponse => (s.seq.toNat = 0 → m = lastSample s ∧ classify s.lastStatus = .ready)
      ∧ (∀ j, s.seq.toNat = 2 * j + 1 → m = .unacked j)
      ∧ (∀ j, s.seq.toNat = 2 * (j + 1) → m = .acked (j + 1))
  | .done => m = .between
  | .failed => (s.mapped = true → m = .between
        ∨ (m = lastSample s ∧ waitEnds s.lastStatus s = true ∧ classify s.lastStatus ≠ .ready))
      ∧ (s.mapped = false → m = .closing)

theorem follows_sendChunk {s : State} {m : Mon} (hst : s.st = .sendChunk) :
    follows s m = true ↔ m = requestMon (payloadCount s.chunkSize) s.seq.toNat := by
  simp only [follows, hst]
  generalize s.seq.toNat = q
  match q with
  | 0 | 1 | 2 | 3 | 4 => simp [requestMon]
  | i + 5 => simp [requestMon]

theorem follows_waitReady {s : State} {m : Mon} (hst : s.st = .waitReady) :
    follows s m = true ↔ MonAt s m .waitReady := by
  by_cases hcount : s.pollCount.toNat = 0 <;> simp [follows, MonAt, hst, hcount, waitOver, waitEnds]

theorem follows_readResponse {s : State} {m : Mon} (hst : s.st = .readResponse) :
    follows s m = true ↔ MonAt s m .readResponse := by
  simp only [follows, MonAt, hst]
  generalize s.seq.toNat = q
  obtain ⟨j, rfl | rfl⟩ := Nat.even_or_odd' q
  · cases j with
    | zero => simp
    | succ j => simpa using fun _ i hi => absurd hi (by omega)
  · have hhalf : (2 * j + 1) / 2 = j := by omega
    simpa [hhalf] using fun _ i hi => absurd hi (by omega)

theorem follows_failed {s : State} {m : Mon} (hst : s.st = .failed) :
    follows s m = true ↔ MonAt s m .failed := by
  cases hm : s.mapped <;> simp [follows, MonAt, hst, hm, waitOver, waitEnds, and_assoc]

theorem follows_iff (s : State) (m : Mon) : follows s m = true ↔ MonAt s m s.st := by
  cases hst : s.st
  case sendChunk => exact follows_sendChunk hst
  case waitReady => exact follows_waitReady hst
  case readResponse => exact follows_readResponse hst
  case failed => exact follows_failed hst
  all_goals simp [follows, MonAt, hst]

theorem ProtocolInv.monAt {s : State} {c : St} (h : ProtocolInv s) (hst : s.st = c) :
    ∃ m, TraceAt s m ∧ MonAt s m c := by
  obtain ⟨m, hm, hfollows⟩ := h
  exact ⟨m, hm, hst ▸ (follows_iff s m).1 hfollows⟩

theorem TraceAt.protocolInv {s : State} {m : Mon} (h : TraceAt s m) (ha : MonAt s m s.st) : ProtocolInv s :=
  ⟨m, h, (follows_iff s m).2 ha⟩

/-- A run that fails with the window held stands between two transactions or at the sample that ended its wait. -/
theorem monAt_failed_held {s : State} {m : Mon} (hheld : s.mapped = true)
    (h : m = .between ∨ (m = lastSample s ∧ waitEnds s.lastStatus s = true ∧ classify s.lastStatus ≠ .ready)) :
    MonAt s m .failed :=
  ⟨fun _ => h, fun hfree => absurd (hheld.symm.trans hfree) (by decide)⟩

section
variable {s t : State} {m m' : Mon}

/-- Where a rule keeps the operands and extends the trace, the monitor goes on from where it was. -/
theorem TraceAt.extend {es : List Event} (h : TraceAt s m) (ho : SameOperands s t) (ht : t.trace = s.trace ++ es)
    (hes : monRun s.cfg s.base m es = some m') : TraceAt t m' := by
  rw [TraceAt, ho.cfg, ho.base, ht, monRun_append, h]
  exact hes

theorem TraceAt.event {e : Event} (h : TraceAt s m) (ho : SameOperands s t) (ht : t.trace = s.trace ++ [e])
    (he : monStep s.cfg s.base m e = some m') : TraceAt t m' :=
  h.extend ho ht (by rw [monRun_cons, he]; rfl)

theorem TraceAt.events {e e' : Event} {n : Mon} (h : TraceAt s m) (ho : SameOperands s t)
    (ht : t.trace = s.trace ++ [e, e']) (he : monStep s.cfg s.base m e = some n)
    (he' : monStep s.cfg s.base n e' = some m') : TraceAt t m' :=
  h.extend ho ht (by rw [monRun_cons, he, Option.bind_some, monRun_cons, he']; rfl)

end

theorem protocolInv_hardReset (s : State) : ProtocolInv (hardReset s) := ⟨.fresh, rfl, rfl⟩

/-- Idle rests, or begins the trace anew with `START` (R101). -/
theorem protocolInv_execStIdle {s t : State} (hp : ProtocolInv s) (h : execStIdle s = .next t) : ProtocolInv t := by
  obtain ⟨-, rfl⟩ | ⟨c, cs, -, -, rfl⟩ := execStIdle_cases h
  · exact hp
  · refine TraceAt.protocolInv (m := .mapping) ?_ rfl
    change monRun _ c.base .fresh [.start c.base c.totalSize] = _
    rw [monRun_cons, monStep_start, if_pos rfl]
    rfl

/-- `MAP` is the first event after `START`; where it fails no window is held (R102, R167). -/
theorem protocolInv_initStep {s : State} (hs : ControlInv s) (hp : ProtocolInv s) (hst : s.st = .init) :
    ProtocolInv (initStep s) := by
  obtain ⟨-, hunmapped⟩ := hs.atState hst
  obtain ⟨m, hm, rfl⟩ := hp.monAt hst
  have ho := initStep_sameOperands s
  obtain ⟨ha, h⟩ | ⟨ha, h⟩ := initStep_cases s <;> rw [h, mapPort_eq] at ho ⊢
  · have hmap : monStep s.cfg s.base .mapping (.map s.base (mapAnswer s)) = some .aborting := by
      rw [ha, monStep_map_ok, if_pos rfl]
    exact (hm.event ho rfl hmap).protocolInv rfl
  · have hmap : monStep s.cfg s.base .mapping (.map s.base (mapAnswer s)) = some .closing := by
      rw [ha, monStep_map_fail, if_pos rfl]
    have hnone : (if mapAnswer s = .ok then true else s.mapped) ≠ true := by simp [ha, hunmapped]
    exact (hm.event ho rfl hmap).protocolInv ⟨fun hheld => absurd hheld hnone, fun _ => rfl⟩

/-- The one `ABORT` of the run (R163). -/
theorem protocolInv_execStAborting {s t : State} (hp : ProtocolInv s) (hst : s.st = .aborting)
    (h : execStAborting s = .next t) : ProtocolInv t := by
  obtain ⟨m, hm, rfl⟩ := hp.monAt hst
  have ho := execStAborting_sameOperands h
  obtain ⟨-, rfl⟩ := execStAborting_cases h
  have habort : monStep s.cfg s.base .aborting (.wr .ctrl (regAddr s.base .ctrl) Config.ctrlAbortWord)
      = some .between := by
    rw [monStep_abort, if_pos ⟨rfl, rfl⟩]
  exact (hm.event ho rfl habort).protocolInv rfl

/-! #### The request (R168) -/

/-- The planning step records no event, and a run that fails in it stands between two transactions (R104, R166). -/
theorem protocolInv_planChunk {s : State} (hs : ControlInv s) (hp : ProtocolInv s) (hst : s.st = .sendChunk)
    (hq : s.seq = 0#11) (ho : SameOperands s (planChunk s)) : ProtocolInv (planChunk s) := by
  obtain ⟨m, hm, hreq⟩ := hp.monAt hst
  obtain rfl : m = .between := by rw [hreq, hq]; rfl
  have htrace : TraceAt (planChunk s) .between := hm.extend ho (by rw [planChunk_trace, List.append_nil]) rfl
  obtain ⟨hheld, -⟩ := hs.atState hst
  obtain ⟨-, h⟩ | ⟨-, h⟩ := planChunk_cases s <;> rw [h] at htrace ⊢
  · exact htrace.protocolInv (monAt_failed_held hheld (.inl rfl))
  · refine htrace.protocolInv ?_
    rw [hst]
    rfl

/-- The length word announces the payload dwords of the chunk (R82). -/
theorem dwordLength_toNat {c : BitVec 13} (h : c.toNat ≤ Config.pageSize) :
    (dwordLength c).toNat = payloadCount c + 4 ∧ payloadCount c ≤ 1024 := by
  unfold Config.pageSize at h
  have hcount : payloadCount c ≤ 1024 := by unfold payloadCount; omega
  refine ⟨?_, hcount⟩
  rw [dwordLength, headerDwords_eq, BitVec.toNat_ofNat]
  exact Nat.mod_eq_of_lt (by omega)

/-- `GO` follows the last payload dword (R86, R168). -/
theorem protocolInv_go {s : State} (hp : ProtocolInv s) (hst : s.st = .sendChunk)
    (hq : s.seq.toNat = goSubStep s.chunkSize) :
    ProtocolInv (enterWait (s.emit (.wr .ctrl (regAddr s.base .ctrl) Config.ctrlGoWord))) := by
  obtain ⟨m, hm, hreq⟩ := hp.monAt hst
  obtain rfl : m = .payload 0 := by
    rw [hreq, hq, goSubStep, requestMon_payload, Nat.sub_self]
  have hgo : monStep s.cfg s.base (.payload 0) (.wr .ctrl (regAddr s.base .ctrl) Config.ctrlGoWord) = some .gone := by
    rw [monStep_go, if_pos ⟨rfl, rfl⟩]
  have htrace : TraceAt (enterWait (s.emit (.wr .ctrl (regAddr s.base .ctrl) Config.ctrlGoWord))) .gone :=
    hm.event (by constructor <;> rfl) rfl hgo
  exact htrace.protocolInv ⟨fun _ => rfl, fun hcount => absurd rfl hcount⟩

section
variable {s : State} (hs : ControlInv s) (hp : ProtocolInv s) (hst : s.st = .sendChunk)
include hs hp hst

/-- A sub-step of `ENCODE` whose events bring the monitor from its place to the next one. -/
theorem protocolInv_advance {es : List Event} (hlt : s.seq.toNat < goSubStep s.chunkSize)
    (hes : monRun s.cfg s.base (requestMon (payloadCount s.chunkSize) s.seq.toNat) es
      = some (requestMon (payloadCount s.chunkSize) (s.seq.toNat + 1))) :
    ProtocolInv { s with trace := s.trace ++ es, seq := s.seq + 1#11 } := by
  obtain ⟨m, hm, rfl⟩ := hp.monAt hst
  have htrace : TraceAt { s with trace := s.trace ++ es, seq := s.seq + 1#11 } _ :=
    hm.extend (by constructor <;> rfl) rfl hes
  refine htrace.protocolInv ?_
  rw [hst, ← seq_succ_toNat (Nat.lt_of_lt_of_le hlt (goSubStep_le hs.inRange.chunk))]
  rfl

/-- The header words, each at its own sub-step (R81 to R84). -/
theorem protocolInv_headerWord {q : BitVec 11} {v : Word} (hq : s.seq = q) (hheader : q.toNat ≤ 4)
    (hword : monStep s.cfg s.base (requestMon (payloadCount s.chunkSize) q.toNat) (.wr .wdata (regAddr s.base .wdata) v)
      = some (requestMon (payloadCount s.chunkSize) (q.toNat + 1))) :
    ProtocolInv (s.emit (.wr .wdata (regAddr s.base .wdata) v)).advance := by
  subst q
  refine protocolInv_advance hs hp hst (by unfold goSubStep; omega) ?_
  rw [monRun_cons, hword]
  rfl

/-- A payload dword is fetched, and the very next event writes it (R85). -/
theorem protocolInv_payloadDword {i : Nat} (a v : Word) (hq : s.seq.toNat = 5 + i)
    (hi : i < payloadCount s.chunkSize) :
    ProtocolInv ((s.emit (.img a v)).emit (.wr .wdata (regAddr s.base .wdata) v)).advance := by
  have hsend : ProtocolInv { s with
      trace := s.trace ++ [.img a v, .wr .wdata (regAddr s.base .wdata) v], seq := s.seq + 1#11 } := by
    refine protocolInv_advance hs hp hst (by unfold goSubStep; omega) ?_
    have hleft : payloadCount s.chunkSize - i = payloadCount s.chunkSize - (i + 1) + 1 := by omega
    rw [hq, Nat.add_assoc, requestMon_payload, requestMon_payload, hleft, monRun_cons, monStep_fetch, Option.bind_some,
      monRun_cons, monStep_carry, if_pos ⟨rfl, rfl⟩]
    rfl
  rw [State.advance, State.emit, State.emit, List.append_assoc]
  exact hsend

theorem protocolInv_sendSubStep {t : State} (h0 : s.seq ≠ 0#11) (h : sendSubStep s = .next t) : ProtocolInv t := by
  obtain ⟨-, h⟩ := sendSubStep_cases h
  obtain ⟨hq, -, rfl⟩ | ⟨hq, rfl⟩ | ⟨hq, rfl⟩ | ⟨hq, rfl⟩ | ⟨h1, h2, h3, h4, hlt, rfl⟩ | ⟨-, -, -, -, hgo, rfl⟩ := h
  · exact protocolInv_headerWord hs hp hst hq (by decide) (if_pos ⟨rfl, rfl⟩)
  · obtain ⟨hword, hcount⟩ := dwordLength_toNat hs.inRange.chunk
    refine protocolInv_headerWord hs hp hst hq (by decide) ?_
    change monStep _ _ .length _ = some (.command _)
    rw [monStep_length, if_pos ⟨rfl, by omega⟩, hword, Nat.add_sub_cancel]
  · exact protocolInv_headerWord hs hp hst hq (by decide) (if_pos ⟨rfl, rfl⟩)
  · exact protocolInv_headerWord hs hp hst hq (by decide) (if_pos ⟨rfl, rfl⟩)
  · have hpayload : s.seq.toNat = 5 + (s.seq.toNat - 5) := by bv_omega
    exact protocolInv_payloadDword hs hp hst _ _ hpayload (by unfold goSubStep at hlt; omega)
  · exact protocolInv_go hp hst hgo

theorem protocolInv_execStSendChunk {t : State} (h : execStSendChunk s = .next t) : ProtocolInv t := by
  have ho := execStSendChunk_sameOperands h
  obtain ⟨hq, rfl⟩ | ⟨hq, hsub⟩ := execStSendChunk_cases h
  · exact protocolInv_planChunk hs hp hst hq ho
  · exact protocolInv_sendSubStep hs hp hst hq hsub

end

/-! #### The wait (R106) -/

/-- In WaitReady the monitor accepts the next tick, and counts it. -/
theorem monStep_tick_of_waitReady {s : State} {m : Mon} (ha : MonAt s m .waitReady) :
    monStep s.cfg s.base m .tick = some (.ticked (s.pollCount.toNat + 1)) := by
  obtain ⟨hfirst, hnext⟩ := ha
  by_cases hcount : s.pollCount.toNat = 0
  · rw [hfirst hcount, hcount, monStep_first_tick]
  · obtain ⟨rfl, hgoes⟩ := hnext hcount
    rw [monStep_next_tick]
    exact if_neg (ne_true_of_eq_false hgoes)

/-- The end of a poll records no event: the wait goes on, the response is read, or the run fails, as the sample says. -/
theorem protocolInv_endPoll {s : State} (hm : TraceAt s (lastSample s)) (hst : s.st = .waitReady)
    (hheld : s.mapped = true) (hcount : s.pollCount.toNat ≠ 0) : ProtocolInv (endPoll s) := by
  have htrace : TraceAt (endPoll s) (lastSample s) :=
    hm.extend (endPoll_sameOperands s) (by rw [endPoll_trace, List.append_nil]) rfl
  obtain ⟨hgoes, -, h⟩ | ⟨hready, h⟩ | ⟨hends, hclass, h⟩ | ⟨hends, hclass, h⟩ := endPoll_cases s <;>
    rw [h] at htrace ⊢ <;> refine htrace.protocolInv ?_
  · rw [hst]
    exact ⟨fun hzero => absurd hzero hcount, fun _ => ⟨rfl, hgoes⟩⟩
  · exact ⟨fun _ => ⟨rfl, hready⟩, by simp [sampledReady], by simp [sampledReady]⟩
  · exact monAt_failed_held hheld (.inr ⟨rfl, hends, by simp [hclass]⟩)
  · exact monAt_failed_held hheld (.inr ⟨rfl, hends, by simp [hclass]⟩)

theorem protocolInv_execStWaitReady {s t : State} (hs : ControlInv s) (hp : ProtocolInv s) (hst : s.st = .waitReady)
    (h : execStWaitReady s = .next t) : ProtocolInv t := by
  obtain ⟨-, hheld, -, hpolls⟩ := hs.atState hst
  obtain ⟨m, hm, ha⟩ := hp.monAt hst
  obtain ⟨-, rfl⟩ := execStWaitReady_cases h
  rw [afterStatusRead_tickPort]
  have hcount := pollCount_afterPolls_one (statusAnswer s) hpolls
  have htrace : TraceAt (afterPolls [] (statusAnswer s) s) (.sampled (s.pollCount.toNat + 1) (statusAnswer s)) :=
    hm.events (by constructor <;> rfl) rfl (monStep_tick_of_waitReady ha) (if_pos rfl)
  rw [← hcount] at htrace
  exact protocolInv_endPoll htrace hst hheld (by omega)

/-! #### The response (R164, R165) -/

/-- Before the read of response dword `j` the monitor accepts it. -/
theorem monStep_read_of_readResponse {s : State} {m : Mon} {j : Nat} (v : Word) (ha : MonAt s m .readResponse)
    (hq : s.seq.toNat = 2 * j) :
    monStep s.cfg s.base m (.rd .rdata (regAddr s.base .rdata) v) = some (.unacked j) := by
  obtain ⟨hfirst, -, hread⟩ := ha
  cases j with
  | zero =>
    obtain ⟨rfl, hready⟩ := hfirst hq
    exact if_pos ⟨waitEnds_ready (s := s) hready, hready, rfl⟩
  | succ j =>
    rw [hread j hq]
    exact if_pos rfl

/-- An acknowledged response dword but the last leads to the next read, the last one to the next transaction. -/
theorem monStep_ack_of_readResponse {s : State} {m : Mon} {j : Nat} (ha : MonAt s m .readResponse)
    (hq : s.seq.toNat = 2 * j + 1) : monStep s.cfg s.base m (.wr .rdata (regAddr s.base .rdata) 0#32) =
      if j = 3 then some .between else some (.acked (j + 1)) := by
  obtain ⟨-, hack, -⟩ := ha
  rw [hack j hq]
  exact if_pos ⟨rfl, rfl⟩

/-- At an odd sub-step one response dword waits for its acknowledge. -/
theorem monAt_unacked {s : State} {j : Nat} (hq : s.seq.toNat = 2 * j + 1) : MonAt s (.unacked j) .readResponse :=
  ⟨fun h => absurd h (by omega), fun _ h => congrArg Mon.unacked (by omega), fun _ h => absurd h (by omega)⟩

/-- At an even sub-step but the first every dword read so far is acknowledged. -/
theorem monAt_acked {s : State} {j : Nat} (hq : s.seq.toNat = 2 * (j + 1)) : MonAt s (.acked (j + 1)) .readResponse :=
  ⟨fun h => absurd h (by omega), fun _ h => absurd h (by omega), fun _ h => congrArg Mon.acked (by omega)⟩

theorem protocolInv_endResponse {s : State} (hm : TraceAt s .between) (hheld : s.mapped = true) :
    ProtocolInv (endResponse s) := by
  have htrace : TraceAt (endResponse s) .between :=
    hm.extend (endResponse_sameOperands s) (by rw [endResponse_trace, List.append_nil]) rfl
  obtain ⟨-, h⟩ | ⟨-, -, h⟩ | ⟨-, -, h⟩ := endResponse_cases s <;> rw [h] at htrace ⊢ <;> refine htrace.protocolInv ?_
  · exact monAt_failed_held hheld (.inl rfl)
  · rfl
  · rfl

theorem protocolInv_execStReadResponse {s t : State} (hp : ProtocolInv s) (hst : s.st = .readResponse)
    (h : execStReadResponse s = .next t) : ProtocolInv t := by
  have ho := execStReadResponse_sameOperands h
  obtain ⟨m, hm, ha⟩ := hp.monAt hst
  obtain ⟨hheld, ⟨hq, rfl⟩ | ⟨hq, rfl⟩ | ⟨hq, rfl⟩⟩ := execStReadResponse_cases h
  · obtain ⟨j, hj, hnext⟩ : ∃ j, s.seq.toNat = 2 * j ∧ (s.seq + 1#11).toNat = 2 * j + 1 := by
      obtain hq | hq | hq | hq := hq <;> rw [hq]
      exacts [⟨0, rfl, rfl⟩, ⟨1, rfl, rfl⟩, ⟨2, rfl, rfl⟩, ⟨3, rfl, rfl⟩]
    rw [checkEcho_eq, afterRdataRead_eq] at ho ⊢
    refine (hm.event ho rfl (monStep_read_of_readResponse _ ha hj)).protocolInv ?_
    rw [State.advance_st, hst]
    exact monAt_unacked hnext
  · obtain ⟨j, hj, hnext, hlast⟩ : ∃ j, s.seq.toNat = 2 * j + 1 ∧ (s.seq + 1#11).toNat = 2 * (j + 1) ∧ j ≠ 3 := by
      obtain hq | hq | hq := hq <;> rw [hq]
      exacts [⟨0, rfl, rfl, by decide⟩, ⟨1, rfl, rfl, by decide⟩, ⟨2, rfl, rfl, by decide⟩]
    have hack := monStep_ack_of_readResponse ha hj
    rw [if_neg hlast] at hack
    refine (hm.event ho rfl hack).protocolInv ?_
    rw [State.advance_st, State.emit_st, hst]
    exact monAt_acked hnext
  · have hack := monStep_ack_of_readResponse (j := 3) ha (by rw [hq]; rfl)
    exact protocolInv_endResponse (hm.event (by constructor <;> rfl) rfl hack) hheld

/-! #### The end of a run (R111, R167) -/

/-- In Done and in Failed the window, where it is held, may be released (R167). -/
theorem monRun_release {s : State} {m : Mon} (hst : s.st = .done ∨ s.st = .failed) (hs : ControlInv s)
    (ha : MonAt s m s.st) : monRun s.cfg s.base m (if s.mapped then [.unmap] else []) = some .closing := by
  obtain hst | hst := hst <;> rw [hst] at ha
  · obtain ⟨-, hheld, -⟩ := hs.atState hst
    obtain rfl : m = .between := ha
    rw [hheld]
    rfl
  · obtain ⟨hheld, hfree⟩ := ha
    cases hm : s.mapped with
    | false => rw [hfree hm]; rfl
    | true =>
      obtain rfl | ⟨rfl, hends, hclass⟩ := hheld hm
      · rfl
      · have hunmap : monStep s.cfg s.base (lastSample s) .unmap = some .closing := if_pos ⟨hends, hclass⟩
        rw [if_pos rfl, monRun_cons, hunmap]
        rfl

/-- The finishing step releases the window and reports an outcome of the run (R111). -/
theorem protocolInv_finish {s : State} (hs : ControlInv s) (hp : ProtocolInv s) (hst : s.st = .done ∨ s.st = .failed) :
    ProtocolInv (finish s) := by
  have houtcome : s.outcome ≠ .none := by
    obtain hst | hst := hst
    · obtain ⟨-, -, hok⟩ := hs.atState hst
      simp [hok]
    · obtain ⟨-, hfail | hfail⟩ := hs.atState hst <;> simp [hfail]
  obtain ⟨m, hm, ha⟩ := hp.monAt rfl
  have ho := finish_sameOperands s
  rw [finish_eq] at ho ⊢
  refine (hm.extend (m' := .ended) ho (List.append_assoc ..) ?_).protocolInv (.inr rfl)
  rw [monRun_append, monRun_release hst hs ha, Option.bind_some, monRun_cons, monStep_done, if_pos ⟨rfl, houtcome⟩]
  rfl

/-- Settles O54: each rule records what the monitor accepts where it stands, and leaves it where the next control state
expects it. -/
theorem stepKeepsProtocol : Obligations.StepKeepsProtocol := by
  intro s t hs hp h
  exact step_elim h
    (reset := fun _ => protocolInv_hardReset s)
    (idle := fun _ => protocolInv_execStIdle hp)
    (init := protocolInv_initStep hs hp)
    (aborting := protocolInv_execStAborting hp)
    (sendChunk := fun hst => protocolInv_execStSendChunk hs hp hst)
    (waitReady := protocolInv_execStWaitReady hs hp)
    (readResponse := protocolInv_execStReadResponse hp)
    (finishing := protocolInv_finish hs hp)

end Sys2Proof.Safety
